-- ==== Sys2Proof/Word.lean ====
section
/-!
DEFINITION. The words of the PJ-16 and its index types: bytes of the serial line, the 32-bit tick
count, and the numbers that name a site, a quad, a lane, a plan, a limit set and a result slot.
-/
namespace Sys2Proof

/-- One byte of the serial line (R174). -/
abbrev Byte := BitVec 8

/-- The tick count: unsigned, 32 bits, wrapping (R25, R28). -/
abbrev Tick := BitVec 32

/-- A site number, 0 to 15 (R1). -/
abbrev Site := Fin 16

/-- A quad number, 0 to 3 (R1). -/
abbrev Quad := Fin 4

/-- A lane number, 0 to 3 (R31). -/
abbrev Lane := Fin 4

/-- The index of a plan place, 0 to 23 (R43). -/
abbrev PlanIx := Fin 24

/-- The index of a limit-set place, 0 to 15 (R43). -/
abbrev LimitIx := Fin 16

/-- A handle: the number of a result slot, 0 to 47 (R124). -/
abbrev Handle := Fin 48

end Sys2Proof
end

