-- ==== Sys2Proof/Config.lean ====
section
/-!
DEFINITION. The fixed sets of names of the part (states, codes, kinds), the constants that rules fix by
number, and the free values: values that the spec leaves unstated, as constants with no body.
-/
namespace Sys2Proof

/-- The states of a site (R2). -/
inductive SiteState where
  | disabled | vacant | seated | powerPending | settling | ready | fault
  deriving DecidableEq, Repr

/-- The states of a lane: those of R31 and the measuring states of R84. -/
inductive LaneState where
  | disabled | faulted | uncalibrated | idle | calibrating
  | attaching | acquiring | discarding | capturing | reducing
  deriving DecidableEq, Repr

/-- The reference states (R25). -/
inductive RefState where
  | absent | qualifying | locked
  deriving DecidableEq, Repr

/-- The source of the service tick (R25, R28). -/
inductive TickSource where
  | backup | refin
  deriving DecidableEq, Repr

/-- The kinds of job (R60). -/
inductive JobKind where
  | measure | check
  deriving DecidableEq, Repr

/-- The termination codes of a result (R128). -/
inductive TermCode where
  | normal | noSignal | offFrequency | noLock | timeout | supplyFault
  | contactLost | powerRemoved | disturbed | cancelled | siteGone | noPath
  deriving DecidableEq, Repr

/-- The classes of a termination code (R128). -/
inductive TermClass where
  | normal | abnormal | interrupted
  deriving DecidableEq, Repr

/-- The causes for which a lane gives a job back (R73). -/
inductive RequeueCause where
  | disturbed | preempted | refLost
  deriving DecidableEq, Repr

/-- The causes of a quad switch event (R12). -/
inductive SwitchCause where
  | switchOn | powerOff | contactFall | faultTrip | restartOff
  deriving DecidableEq, Repr

/-- The quality class of a path (R161). -/
inductive Rating where
  | unchecked | good | marginal | bad
  deriving DecidableEq, Repr

/-- The status of a reply: OK or a refusal code (R180, R191). -/
inductive Status where
  | ok | badKind | badLength | badField | state | busy | full | inUse | isProtected | noSuch | noPath
  deriving DecidableEq, Repr

/-- The reasons of a NAK (R177). -/
inductive NakReason where
  | check | length | gap
  deriving DecidableEq, Repr

/-- The six alerts (R184). -/
inductive Alert where
  | restarted | reference | laneFaulted | supplyFault | holdExpired | linkError
  deriving DecidableEq, Repr

namespace Config

/-- The 25 ticks of a calibration (R35). -/
def calTicks : Nat := 25
/-- The most a residual spread may be for a pass, in fs rms (R36). -/
def calMaxSpread : Nat := 500
/-- The coarse window of a check interval, in REFIN edges (R25). -/
def coarseLow : Nat := 9800
/-- The upper end of the coarse window (R25). -/
def coarseHigh : Nat := 10200
/-- The in-window check intervals that make a reference LOCKED (R26). -/
def qualifyIntervals : Nat := 200
/-- The ticks of switch-path settling (R85). -/
def attachTicks : Nat := 2
/-- The ticks from the attach end to the end of the no-signal window (R86). -/
def noSignalTicks : Nat := 2
/-- The ticks from the attach end to the coarse frequency check (R87). -/
def coarseTicks : Nat := 4
/-- The ticks from the attach end to the last lock test (R88). -/
def lockTicks : Nat := 40
/-- The consecutive periods within tolerance that make lock (R88). -/
def lockPeriods : Nat := 1024
/-- The places of a capture ring (R91). -/
def ringPlaces : Nat := 4096
/-- The most samples of a capture, the size of the capture memory (R105, R110). -/
def captureMax : Nat := 65536
/-- The edges of one discard unit (R44). -/
def discardUnit : Nat := 1024
/-- The places of the job list (R61). -/
def jobPlaces : Nat := 32
/-- The result slots (R124). -/
def slotCount : Nat := 48
/-- The gap limit, in ticks (R175). -/
def gapTicks : Nat := 5
/-- The restart busy window, in ticks (R182). -/
def busyTicks : Nat := 10
/-- The largest body of a frame, in bytes (R174). -/
def maxBody : Nat := 240
/-- The samples of a block at most (R156). -/
def blockSamples : Nat := 16
/-- The samples of a spectral segment (R117). -/
def segmentSamples : Nat := 1024

/-- The budget of a CHECK job, in ticks (R60, R163). -/
def checkBudget : Nat := 150
/-- The retry limit of a CHECK job (R60, R163). -/
def checkRetries : Nat := 2
/-- The capture of a CHECK job, in ticks (R105, R163). -/
def checkCaptureTicks : Nat := 60
/-- The nominal frequency of the check tone, in Hz (R163). -/
def toneNominal : Nat := 10000000
/-- The stride of a path check (R163). -/
def toneStride : Nat := 16
/-- The frequency window of a path check, in ppm (R163). -/
def toneWindow : Nat := 2

/-- FREE VALUE (log 17): what a figure is formed from where the spec defines no value for it, because the
capture holds too few samples or its times span nothing. The argument is the count `State.free`. -/
opaque freeRat : Nat → Rat

end Config

end Sys2Proof
end

