-- ==== Sys2Proof/Syntax.lean ====
section
/-!
DEFINITION. The commands of the PJ-16: one constructor of `Instr` for each row of spec/opcode_table.json,
with the row's operands, the two records that requests carry whole (R44, R47), and the edges on a path, which the
rows of a run carry (log 35).
-/
namespace Sys2Proof

/-- A plan record as WRITE PLAN carries it (R44, R195). Fields are numbers as the wire codes them, but
for the discard and the budget, which are the real counts (the wire carries them less one, R192), and the
sample count, which is held as the exponent k of 2^k that the wire carries. `metrics` and `flags` are the
bit sets of R193. -/
structure Plan where
  nominal : Nat
  edge : Nat
  stride : Nat
  discard : Nat
  sampleExp : Nat
  metrics : BitVec 8
  band : Option (Nat × Nat)
  spots : List Nat
  limitSet : Option Nat
  retryLimit : Nat
  budget : Nat
  window : Nat
  flags : BitVec 8
  deriving DecidableEq, Repr

/-- A limit entry (R47), its selector and comparison by the codes of R193. -/
structure LimitEntry where
  selector : Nat
  comparison : Nat
  lo : Int
  hi : Int
  bin : Nat
  deriving DecidableEq, Repr

/-- A run of evenly spaced edges of one polarity on a lane's path: the time of the first, the time from each to
the next, in fs on the lane's timebase (R109), and their number. A list of runs is every edge of a stretch of time
(log 35). -/
structure EdgeRun where
  falling : Bool
  first : Rat
  period : Rat
  count : Nat
  deriving DecidableEq, Repr

/-- The edges of a stretch of time on a lane's path, and the time that the stretch ends at (log 35). -/
structure PathEdges where
  lane : Lane
  edges : List EdgeRun
  time : Rat
  deriving DecidableEq, Repr

/-- The commands. A request's first operand is the tag of its body (R191); NEXT has none. The operands of
an event are the site, quad or lane it falls to and what the part's surroundings supply at it. -/
inductive Instr where
  /-- SITE_MODE (R17): site; enable, autopower (0 or 1) and settle ticks, each or absent. -/
  | siteMode (tag : Byte) (site : Nat) (enable autopower settle : Option Nat)
  /-- POWER_ON (R18). -/
  | powerOn (tag : Byte) (site : Nat)
  /-- POWER_OFF (R19). -/
  | powerOff (tag : Byte) (site : Nat)
  /-- CLEAR_SITE (R20). -/
  | clearSite (tag : Byte) (site : Nat)
  /-- QUERY_SITES (R21). -/
  | querySites (tag : Byte)
  /-- QUERY_TIMEBASE (R29). -/
  | queryTimebase (tag : Byte)
  /-- QUERY_LANE (R40). -/
  | queryLane (tag : Byte) (lane : Nat)
  /-- RECALIBRATE (R38). -/
  | recalibrate (tag : Byte) (lane : Nat)
  /-- LANE_MODE_ENABLE (R39). -/
  | laneModeEnable (tag : Byte) (lane : Nat)
  /-- LANE_MODE_DISABLE (R39). -/
  | laneModeDisable (tag : Byte) (lane : Nat)
  /-- WRITE_PLAN (R51). -/
  | writePlan (tag : Byte) (index : Nat) (plan : Plan)
  /-- ERASE_PLAN (R52). -/
  | erasePlan (tag : Byte) (index : Nat)
  /-- READ_PLAN (R53). -/
  | readPlan (tag : Byte) (index : Nat)
  /-- WRITE_LIMITS (R54). -/
  | writeLimits (tag : Byte) (index : Nat) (entries : List LimitEntry)
  /-- ERASE_LIMITS (R55). -/
  | eraseLimits (tag : Byte) (index : Nat)
  /-- READ_LIMITS (R56). -/
  | readLimits (tag : Byte) (index : Nat)
  /-- PROTECT (R57): a boundary or none; `setup` is the level of SETUP when the request is taken. -/
  | protect (tag : Byte) (boundary : Option Nat) (setup : Bool)
  /-- MEASURE (R64). -/
  | measure (tag : Byte) (site plan : Nat)
  /-- SCREEN (R65). -/
  | screen (tag : Byte) (sites : BitVec 16) (plan : Nat)
  /-- CHECK_PATHS (R66). -/
  | checkPaths (tag : Byte) (sites : BitVec 16) (lanes : BitVec 8)
  /-- CANCEL (R77): selector type (1 job id, 2 site, 3 batch) and value. -/
  | cancel (tag : Byte) (selector value : Nat)
  /-- PAUSE (R79). -/
  | pause (tag : Byte)
  /-- RESUME (R79). -/
  | resume (tag : Byte)
  /-- QUERY_QUEUE (R80). -/
  | queryQueue (tag : Byte)
  /-- SNAPSHOT (R147). -/
  | snapshot (tag : Byte) (lanes : BitVec 8)
  /-- READ_SNAPSHOT (R149). -/
  | readSnapshot (tag : Byte) (lane : Nat)
  /-- READ_SAMPLES (R155). -/
  | readSamples (tag : Byte) (lane start window follow : Nat)
  /-- NEXT (R157): the request whose body is its kind byte alone. -/
  | nextBlock
  /-- RELEASE_LANE (R153). -/
  | releaseLane (tag : Byte) (lane : Nat)
  /-- TAKE_COMPLETION (R138). -/
  | takeCompletion (tag : Byte)
  /-- READ_RESULT (R139). -/
  | readResult (tag : Byte) (handle : Nat)
  /-- FREE_RESULT (R140). -/
  | freeResult (tag : Byte) (handle : Nat)
  /-- QUERY_PATHS (R171): one site, or all. -/
  | queryPaths (tag : Byte) (site : Option Nat)
  /-- SET_CONFIG (R188): setting code and 4-byte value. -/
  | setConfig (tag : Byte) (setting value : Nat)
  /-- GET_CONFIG (R189). -/
  | getConfig (tag : Byte) (setting : Nat)
  /-- READ_ALERTS (R186). -/
  | readAlerts (tag : Byte)
  /-- RESTART (R182). -/
  | restart (tag : Byte)
  /-- BAD_KIND_REQUEST (R179): a body whose first byte is no request kind; the rest begins with the tag. -/
  | badKindRequest (kind : Byte) (rest : List Byte)
  /-- RECEIVE_BYTE (R174): a byte on RXD; `setup` is the level of SETUP when it is taken. -/
  | receiveByte (byte : Byte) (setup : Bool)
  /-- GAP_EXPIRY (R175). -/
  | gapExpiry
  /-- REPLY_COMPLETE (R178). -/
  | replyComplete
  /-- RESTART_ISSUE (R182). -/
  | restartIssue
  /-- RESTART_BUSY_WINDOW_END (R182). -/
  | restartBusyWindowEnd
  /-- RESET_ASSERT (R183). -/
  | resetAssert
  /-- RESET_END (R183, R23): the raw CONTACT levels and RATE[1:0] sampled at the end of reset. -/
  | resetEnd (contact : BitVec 16) (rate : BitVec 2)
  /-- SERVICE_TICK (R28): the raw CONTACT and SUPPLY_FLT levels sampled at the tick (R3, R13), and the
  order in which lanes reached by one change are taken until the next tick (log 7). -/
  | serviceTick (contact supplyFlt : BitVec 16) (order : Fin 24)
  /-- CONTACT_RISE (R4). -/
  | contactRise (site : Site)
  /-- CONTACT_FALL (R5). -/
  | contactFall (site : Site)
  /-- SUPPLY_FAULT_TRIP (R13). -/
  | supplyFaultTrip (site : Site)
  /-- SETTLE_EXPIRY (R10). -/
  | settleExpiry (site : Site)
  /-- QUIET_EXPIRY (R11). -/
  | quietExpiry (quad : Quad)
  /-- CHECK_INTERVAL_END (R26, R27): the REFIN rising edges counted in the interval. -/
  | checkIntervalEnd (edges : Nat)
  /-- CAL_COUNTER_EXPIRY (R32). -/
  | calCounterExpiry (lane : Lane)
  /-- QUIET_TIME_CALIBRATION (R33). -/
  | quietTimeCalibration (lane : Lane)
  /-- CALIBRATION_COMPLETE (R36): the gain code found and the residual spread in fs rms. -/
  | calibrationComplete (lane : Lane) (gain : Nat) (spread : Rat)
  /-- LANE_PAIRING (R71). -/
  | lanePairing
  /-- ATTACH_END (R85). -/
  | attachEnd (lane : Lane)
  /-- NO_SIGNAL_WINDOW_END (R86): the edges after the attach end tick e and up to e + 2. -/
  | noSignalWindowEnd (lane : Lane) (edges : List EdgeRun)
  /-- COARSE_FREQUENCY_CHECK (R87, R88): the edges after the time of tick e + 2 and up to that of e + 4. -/
  | coarseFrequencyCheck (lane : Lane) (edges : List EdgeRun) (since time : Rat)
  /-- LOCK_ACQUIRED (R88), a lock test: the edges since the test before it, up to the time of its tick. -/
  | lockAcquired (seen : PathEdges)
  /-- LOCK_WINDOW_END (R88), the lock test of tick e + 40: the edges since the test before it, up to its time. -/
  | lockWindowEnd (seen : PathEdges)
  /-- LOSS_OF_LOCK (R89): a stretch of edges with no edge between them left out, up to a time. -/
  | lossOfLock (seen : PathEdges)
  /-- DISCARD_COMPLETE (R89): the edges that follow those given before, up to a time. -/
  | discardComplete (seen : PathEdges)
  /-- SAMPLE_COMPLETE (R90, R109): the edges after that of the sample before, or, for sample 0, after those given
  before, up to the time at which the sample's second period ends. -/
  | sampleComplete (lane : Lane) (edges : List EdgeRun) (since time : Rat)
  /-- CHECK_CAPTURE_END (R105). -/
  | checkCaptureEnd (lane : Lane)
  /-- REDUCTION_END (R92). -/
  | reductionEnd (lane : Lane)
  /-- BUDGET_EXPIRY (R93). -/
  | budgetExpiry (lane : Lane)
  /-- HOLD_EXPIRY (R151). -/
  | holdExpiry (lane : Lane)
  deriving DecidableEq, Repr

end Sys2Proof
end

