-- ==== Sys2Proof/Machine/State.lean ====
section
/-!
DEFINITION. The state of the PJ-16 as plain data: the records of its eight blocks, the pins as last
sampled, and the queue of commands; the reasons a step could stop; and the state right after reset.
-/
namespace Sys2Proof.Machine

/-- A fault: none. Nothing the spec describes stops the part; a supply fault, a failed calibration and a
broken frame are states and replies of it (R13, R36, R177). No meaning raises one, so this is safe. -/
inductive Fault where
  deriving DecidableEq, Repr

/-- A refusal to model a command. -/
inductive Refusal where
  /-- An arm of `exec` that has no meaning yet raises it, by the row's mnemonic; no arm does. Safe: the
  model stops where the part goes on. -/
  | notModelled (mnemonic : String)
  deriving DecidableEq, Repr

/-- A countdown of service ticks: the ticks left, and whether its last tick has come, so that the expiry
event, which takes it from 1 to 0, is owed before the next tick (log 4). Not running is `⟨0, false⟩`. -/
structure Countdown where
  left : Nat
  due : Bool
  deriving DecidableEq, Repr

/-- A site record (R1). The supply is the level of the site's SUPPLY_EN line. -/
structure SiteRecord where
  state : SiteState
  contact : Bool
  run : Nat
  /-- The model's own: a debounced change found at this tick and not yet taken (log 14). -/
  changeDue : Bool
  supply : Bool
  autopower : Bool
  settleTicks : Nat
  settle : Countdown
  attachedLane : Option Lane
  attachedKind : Option JobKind
  lastBin : Option Nat
  lastJobId : Option Nat
  completed : Nat
  faults : Nat
  /-- The model's own: SUPPLY_FLT found asserted at this tick and the trip not yet taken (log 14). -/
  tripDue : Bool
  deriving DecidableEq, Repr

/-- The state of the Reference Monitor (R25). -/
structure Reference where
  state : RefState
  progress : Nat
  lastCheck : Nat
  source : TickSource
  tick : Tick
  deriving DecidableEq, Repr

/-- The Plan Store (R43). A place that holds `none` is EMPTY. -/
structure PlanStore where
  plans : Vector (Option Plan) 24
  limits : Vector (Option (List LimitEntry)) 16
  boundary : Nat
  deriving DecidableEq, Repr

/-- The kind of a job with the field that the kind alone has (R60): a plan, or a target lane. -/
inductive Work where
  | measure (plan : PlanIx)
  | check (target : Lane)
  deriving DecidableEq, Repr

/-- The lane and tick of a job's latest pairing (R60). -/
structure LastRun where
  lane : Lane
  tick : Tick
  deriving DecidableEq, Repr

/-- A job record (R60). The job's state is RUNNING exactly when `running` holds a lane, and else QUEUED. -/
structure Job where
  id : Nat
  work : Work
  site : Site
  batch : Option Nat
  running : Option Lane
  handle : Handle
  retries : Nat
  preemptions : Nat
  enqueued : Tick
  lastRun : Option LastRun
  deriving DecidableEq, Repr

/-- The Job Controller (R60 to R62, R79). -/
structure JobController where
  jobs : List Job
  paused : Bool
  lastJobId : Nat
  lastBatchId : Nat
  deriving DecidableEq, Repr

/-- The record of a completed calibration (R31). -/
structure CalRecord where
  tick : Tick
  pass : Bool
  gain : Nat
  deriving DecidableEq, Repr

/-- A sample in the capture memory: its timestamp and its two periods, in fs, exact (R109, R110; log 16). -/
structure Sample where
  stamp : Rat
  first : Rat
  second : Rat
  deriving DecidableEq, Repr

/-- The raw form of a sample, in fs (R111). -/
structure RawSample where
  timeError : Int
  firstDev : Int
  secondDev : Int
  deriving DecidableEq, Repr

/-- The running accumulators of a run that has completed a sample (R144). The count is `captured`. -/
structure Accumulators where
  minError : Int
  maxError : Int
  sumDev : Int
  sumDevSq : Int
  deriving DecidableEq, Repr

/-- The capture ring with its content record (R91). The count held is the number of samples. -/
structure RingContent where
  jobId : Nat
  first : Nat
  samples : List RawSample
  deriving DecidableEq, Repr

/-- A snapshot record (R145). -/
structure SnapshotRecord where
  lane : Lane
  jobId : Option Nat
  site : Option Site
  taken : Tick
  captured : Nat
  span : Option Int
  meanDev : Option Int
  periodRms : Option Int
  noData : Bool
  live : Bool
  deriving DecidableEq, Repr

/-- The edge tracker of a run (R86, R88): the time of the latest edge of the chosen polarity that it has taken in,
in fs on the lane's timebase (in CAPTURING the edge of the latest sample, from which the next one is counted), and how many of the
latest consecutive periods lie within tolerance, counted up to the 1,024 that lock asks for. -/
structure Tracker where
  last : Option Rat
  good : Nat
  deriving DecidableEq, Repr

/-- The run state of a lane for the job it has attached (R83): the part that an end, a requeue or RESTART
clears. -/
structure RunState where
  site : Option Site
  jobId : Option Nat
  kind : Option JobKind
  start : Option Tick
  budget : Countdown
  attach : Countdown
  attachEnd : Option Tick
  /-- The model's own: the no-signal window of this run has been passed (R86; log 24). -/
  signalSeen : Bool
  tracker : Tracker
  coarse : Option Int
  discard : Nat
  capture : Countdown
  reduce : Countdown
  deriving DecidableEq, Repr

/-- A lane context (R31, R83, R91, R110, R144 to R146, R150). -/
structure LaneContext where
  state : LaneState
  calCounter : Countdown
  owed : Nat
  calLeft : Countdown
  calFails : Nat
  lastCal : Option CalRecord
  /-- The gain code in use: that of the latest passing calibration (R31, R36). -/
  gain : Option Nat
  run : RunState
  captured : Nat
  acc : Option Accumulators
  ring : Option RingContent
  memory : List Sample
  hold : Bool
  holdLeft : Countdown
  latch : Option SnapshotRecord
  deriving DecidableEq, Repr

/-- The flags of a figure (R123). -/
structure FigureFlags where
  saturated : Bool
  floorCorrected : Bool
  belowFloor : Bool
  noFloor : Bool
  deriving DecidableEq, Repr

/-- A figure: its value in its unit, and its flags (R120, R122). -/
structure Figure where
  value : Int
  flags : FigureFlags
  deriving DecidableEq, Repr

/-- The seven figures of a MEASURE result other than FREQ and the spots, each or absent (R127). -/
structure Figures where
  periodRms : Option Figure
  periodPp : Option Figure
  c2cRms : Option Figure
  c2cPp : Option Figure
  tieRms : Option Figure
  tiePp : Option Figure
  phaseInt : Option Figure
  deriving DecidableEq, Repr

/-- An entry of a spot list (R123). -/
structure SpotLevel where
  offset : Nat
  level : Int
  saturated : Bool
  deriving DecidableEq, Repr

/-- The four noise floors of a path, in fs, each or absent (R161). -/
structure Floors where
  tie : Option Nat
  period : Option Nat
  c2c : Option Nat
  phase : Option Nat
  deriving DecidableEq, Repr

/-- A verdict (R134). -/
structure Verdict where
  bin : Nat
  deciding : Option Nat
  skipped : Nat
  deriving DecidableEq, Repr

/-- A result record (R127). Its handle is the number of the slot that holds it. `rating` and `pathUpdated`
are a CHECK result's (R130). -/
structure ResultRecord where
  jobId : Nat
  work : Work
  site : Site
  batch : Option Nat
  code : TermCode
  laneUsed : Option Lane
  retries : Nat
  preemptions : Nat
  start : Option Tick
  endTick : Tick
  freqError : Option Int
  figures : Figures
  spots : List SpotLevel
  verdict : Option Verdict
  floors : Floors
  rating : Rating
  pathUpdated : Bool
  deriving DecidableEq, Repr

/-- A result slot (R124). -/
inductive Slot where
  | free
  | reserved
  | filled (record : ResultRecord)
  | taken (record : ResultRecord)
  deriving DecidableEq, Repr

/-- The Result Store (R124, R136). -/
structure ResultStore where
  slots : Vector Slot 48
  queue : List Handle
  deriving DecidableEq, Repr

/-- A path entry (R161). -/
structure PathEntry where
  rating : Rating
  floors : Floors
  lastCheck : Option Tick
  checks : Nat
  deriving DecidableEq, Repr

/-- What the receiver counts in SWALLOW (R178): the swallowed frame's length byte is still to come; a
number of bytes is left; or bytes are dropped until the gap countdown expires. -/
inductive Swallow where
  | length
  | bytes (left : Nat)
  | untilGap
  deriving DecidableEq, Repr

/-- The receiver states with what has been received (R174). -/
inductive Receiver where
  | hunt
  | length
  | body (length : Nat) (got : List Byte)
  | check (body : List Byte)
  | drain
  | swallow (left : Swallow)
  deriving DecidableEq, Repr

/-- The data of a reply: one frame's, or the data of the segments of a run (R198). -/
inductive ReplyData where
  | single (data : List Byte)
  | segments (data : List (List Byte))
  deriving DecidableEq, Repr

/-- A reply pending on the line (R180), or a NAK (R177). -/
inductive Reply where
  | answer (kind tag : Byte) (status : Status) (data : ReplyData)
  | nak (reason : NakReason)
  deriving DecidableEq, Repr

/-- An ACTIVE follow context (R157). -/
structure Follow where
  lane : Lane
  base : Nat
  last : Nat
  size : Nat
  nextIndex : Nat
  stale : Bool
  deriving DecidableEq, Repr

/-- The alert flags, by the bits of R193, and the three masks (R184). -/
structure Alerts where
  flags : BitVec 6
  laneFaulted : BitVec 4
  supplyFault : BitVec 16
  holdExpired : BitVec 4
  deriving DecidableEq, Repr

/-- The settings table (10.6, 10.8). -/
structure Settings where
  calPeriod : Nat
  quietWindow : Nat
  debounce : Nat
  holdLimit : Nat
  floorGood : Nat
  floorMarginal : Nat
  requireChecked : Bool
  alertMask : BitVec 6
  deriving DecidableEq, Repr

/-- The Link Port (chapter 10). A reply is pending exactly while `reply` holds one. -/
structure LinkPort where
  receiver : Receiver
  gap : Countdown
  reply : Option Reply
  /-- The pending reply is that of an accepted RESTART, which acts when it has been sent (R182). -/
  restartOwed : Bool
  busy : Countdown
  follow : Option Follow
  alerts : Alerts
  settings : Settings
  /-- The line rate, as RATE[1:0] fixed it at the end of reset (R183). -/
  rate : BitVec 2
  deriving DecidableEq, Repr

/-- The input pins as last sampled. `resetn` is low while the part is held in reset (R183). -/
structure Pins where
  contact : BitVec 16
  supplyFlt : BitVec 16
  setup : Bool
  resetn : Bool
  deriving DecidableEq, Repr

/-- The state of the part and the queue of commands waiting for it, first in, first out. -/
structure State where
  sites : Vector SiteRecord 16
  quiet : Vector Countdown 4
  ref : Reference
  store : PlanStore
  jc : JobController
  lanes : Vector LaneContext 4
  results : ResultStore
  paths : Vector PathEntry 64
  link : LinkPort
  pins : Pins
  /-- The model's own: which order lanes reached by one change are taken in (log 7). -/
  laneOrder : Fin 24
  /-- The model's own: the count that free values are drawn with (log 17). -/
  free : Nat
  /-- The commands waiting (log 1). -/
  pending : List Instr
  deriving DecidableEq, Repr

/-! ### Reset values -/

/-- A countdown that is not running. -/
def Countdown.idle : Countdown := ⟨0, false⟩

/-- A site record after reset, with the raw contact level sampled at its end (R23). -/
def SiteRecord.atReset (contact : Bool) : SiteRecord where
  state := if contact then .seated else .vacant
  contact := contact
  run := 0
  changeDue := false
  supply := false
  autopower := false
  settleTicks := 100
  settle := .idle
  attachedLane := none
  attachedKind := none
  lastBin := none
  lastJobId := none
  completed := 0
  faults := 0
  tripDue := false

/-- The Reference Monitor after reset (R30). -/
def Reference.atReset : Reference := ⟨.absent, 0, 0, .backup, 0⟩

/-- The Plan Store after reset (R59). -/
def PlanStore.atReset : PlanStore := ⟨Vector.replicate 24 none, Vector.replicate 16 none, 0⟩

/-- The Job Controller after reset (R81). -/
def JobController.atReset : JobController := ⟨[], false, 0, 0⟩

/-- A cleared run state (R83, R107). -/
def RunState.idle : RunState where
  site := none
  jobId := none
  kind := none
  start := none
  budget := .idle
  attach := .idle
  attachEnd := none
  signalSeen := false
  tracker := ⟨none, 0⟩
  coarse := none
  discard := 0
  capture := .idle
  reduce := .idle

/-- A lane after reset (R42, R107, R159). -/
def LaneContext.atReset : LaneContext where
  state := .uncalibrated
  calCounter := .idle
  owed := 0
  calLeft := .idle
  calFails := 0
  lastCal := none
  gain := none
  run := .idle
  captured := 0
  acc := none
  ring := none
  memory := []
  hold := false
  holdLeft := .idle
  latch := none

/-- The Result Store after reset (R142). -/
def ResultStore.atReset : ResultStore := ⟨Vector.replicate 48 .free, []⟩

/-- No floors. -/
def Floors.none : Floors := ⟨.none, .none, .none, .none⟩

/-- A path entry after reset (R172). -/
def PathEntry.atReset : PathEntry := ⟨.unchecked, .none, none, 0⟩

/-- The default settings (10.8). -/
def Settings.default : Settings where
  calPeriod := 10000
  quietWindow := 20
  debounce := 5
  holdLimit := 5000
  floorGood := 80
  floorMarginal := 200
  requireChecked := false
  alertMask := 0x3F

/-- No alert raised and no mask bit set. -/
def Alerts.clear : Alerts := ⟨0, 0, 0, 0⟩

/-- The Link Port after reset, RESTARTED set (R183). -/
def LinkPort.atReset (rate : BitVec 2) : LinkPort where
  receiver := .hunt
  gap := .idle
  reply := none
  restartOwed := false
  busy := .idle
  follow := none
  alerts := ⟨1, 0, 0, 0⟩
  settings := .default
  rate := rate

/-- The part at the end of power-on or RESETn, with the CONTACT levels and RATE sampled there. -/
def State.atReset (contact : BitVec 16) (rate : BitVec 2) : State where
  sites := Vector.ofFn fun i => SiteRecord.atReset (contact.getLsbD i.val)
  quiet := Vector.replicate 4 .idle
  ref := .atReset
  store := .atReset
  jc := .atReset
  lanes := Vector.replicate 4 .atReset
  results := .atReset
  paths := Vector.replicate 64 .atReset
  link := .atReset rate
  pins := ⟨contact, 0, false, true⟩
  laneOrder := 0
  free := 0
  pending := []

/-- The machine right after reset: no CONTACT line is high and RATE is 0 (log 8). -/
def State.reset : State := State.atReset 0 0

end Sys2Proof.Machine
end

