-- ==== Sys2Proof/Machine/Ops.lean ====
section
/-!
DEFINITION. The named operations over the records of State: countdowns, reading and writing a site, quad,
lane, slot, path, plan or setting, and drawing a free value. Every meaning reads and writes through these.
-/
namespace Sys2Proof.Machine

/-! ### Countdowns (R10, R11, R32, R85, R93, R150, R175, R182; log 4) -/

/-- Loads a countdown. -/
def Countdown.load (n : Nat) : Countdown := ⟨n, false⟩

/-- A service tick at a countdown. Its last tick makes it due; the expiry event takes it to 0. -/
def Countdown.tick (c : Countdown) : Countdown :=
  if c.left = 0 then c else if c.left = 1 then ⟨1, true⟩ else ⟨c.left - 1, false⟩

/-! ### Numbers that name things -/

/-- All sites, in order. -/
def allSites : List Site := List.finRange 16
/-- All quads, in order. -/
def allQuads : List Quad := List.finRange 4
/-- All lanes, in order. -/
def allLanes : List Lane := List.finRange 4
/-- All handles, in order. -/
def allHandles : List Handle := List.finRange 48

/-- The quad of a site: s div 4 (R1). -/
def quadOf (i : Site) : Quad := ⟨i.val / 4, by omega⟩

/-- The four sites of a quad, in order (R1). -/
def quadSites (q : Quad) : List Site := allSites.filter fun i => quadOf i == q

/-- The place in the Path Table of the route from a site to a lane (R161). -/
def pathIx (i : Site) (l : Lane) : Fin 64 := ⟨i.val * 4 + l.val, by omega⟩

/-- The permutation of the four lanes with a number from 0 to 23, in lexicographic order (log 7). -/
def lanesInOrder (n : Fin 24) : List Lane :=
  let a := allLanes.getD (n.val / 6) 0
  let l1 := allLanes.erase a
  let b := l1.getD (n.val % 6 / 2) 0
  let l2 := l1.erase b
  let c := l2.getD (n.val % 2) 0
  a :: b :: c :: l2.erase c

/-! ### Reading and writing the records -/

/-- The record of a site. -/
def State.site (s : State) (i : Site) : SiteRecord := s.sites[i]

/-- Changes the record of a site. -/
def State.modSite (s : State) (i : Site) (f : SiteRecord → SiteRecord) : State :=
  { s with sites := s.sites.set i (f s.sites[i]) }

/-- Changes the record of every site, by its number. -/
def State.mapSites (s : State) (f : Site → SiteRecord → SiteRecord) : State :=
  { s with sites := Vector.ofFn fun i => f i s.sites[i] }

/-- The quiet countdown of a quad. -/
def State.quietOf (s : State) (q : Quad) : Countdown := s.quiet[q]

/-- Sets the quiet countdown of a quad. -/
def State.setQuiet (s : State) (q : Quad) (c : Countdown) : State :=
  { s with quiet := s.quiet.set q c }

/-- Changes the quiet countdown of every quad, by its number. -/
def State.mapQuiet (s : State) (f : Quad → Countdown → Countdown) : State :=
  { s with quiet := Vector.ofFn fun q => f q s.quiet[q] }

/-- The context of a lane. -/
def State.lane (s : State) (l : Lane) : LaneContext := s.lanes[l]

/-- Changes the context of a lane. -/
def State.modLane (s : State) (l : Lane) (f : LaneContext → LaneContext) : State :=
  { s with lanes := s.lanes.set l (f s.lanes[l]) }

/-- Changes the context of every lane. -/
def State.mapLanes (s : State) (f : LaneContext → LaneContext) : State :=
  { s with lanes := Vector.ofFn fun l => f s.lanes[l] }

/-- Changes the Reference Monitor. -/
def State.modRef (s : State) (f : Reference → Reference) : State := { s with ref := f s.ref }

/-- Changes the Plan Store. -/
def State.modStore (s : State) (f : PlanStore → PlanStore) : State := { s with store := f s.store }

/-- Changes the Job Controller. -/
def State.modJc (s : State) (f : JobController → JobController) : State := { s with jc := f s.jc }

/-- Changes the Result Store. -/
def State.modResults (s : State) (f : ResultStore → ResultStore) : State := { s with results := f s.results }

/-- Changes the Link Port. -/
def State.modLink (s : State) (f : LinkPort → LinkPort) : State := { s with link := f s.link }

/-- Changes the pins. -/
def State.modPins (s : State) (f : Pins → Pins) : State := { s with pins := f s.pins }

/-- A result slot. -/
def State.slot (s : State) (h : Handle) : Slot := s.results.slots[h]

/-- Sets a result slot. -/
def State.setSlot (s : State) (h : Handle) (x : Slot) : State :=
  s.modResults fun r => { r with slots := r.slots.set h x }

/-- The entry of a path. -/
def State.path (s : State) (i : Site) (l : Lane) : PathEntry := s.paths[pathIx i l]

/-- Sets the entry of a path. -/
def State.setPath (s : State) (i : Site) (l : Lane) (e : PathEntry) : State :=
  { s with paths := s.paths.set (pathIx i l) e }

/-- The plan at a place, if DEFINED. -/
def State.plan (s : State) (p : PlanIx) : Option Plan := s.store.plans[p]

/-- The limit set at a place, if DEFINED. -/
def State.limitSet (s : State) (x : LimitIx) : Option (List LimitEntry) := s.store.limits[x]

/-- The settings table. -/
def State.settings (s : State) : Settings := s.link.settings

/-- The tick count. -/
def State.now (s : State) : Tick := s.ref.tick

/-- The job list. -/
def State.jobs (s : State) : List Job := s.jc.jobs

/-- Replaces the job list. -/
def State.setJobs (s : State) (l : List Job) : State := s.modJc fun c => { c with jobs := l }

/-- The listed job with an id, if any. -/
def State.findJob (s : State) (id : Nat) : Option Job := s.jc.jobs.find? fun j => j.id == id

/-- Counts a free value as drawn (log 17). -/
def State.draw (s : State) : State := { s with free := s.free + 1 }

/-! ### Small questions -/

/-- A measuring state of a lane (R84). -/
def isMeasuring : LaneState → Bool
  | .attaching | .acquiring | .discarding | .capturing | .reducing => true
  | .disabled | .faulted | .uncalibrated | .idle | .calibrating => false

/-- The lane states in which the cal counter runs: IDLE and the measuring states (R31, R32). -/
def counterRuns (x : LaneState) : Bool := x == .idle || isMeasuring x

/-- The kind of a job's work. -/
def Work.kind : Work → JobKind
  | .measure _ => .measure
  | .check _ => .check

/-- A job is QUEUED when no lane runs it (R60). -/
def Job.queued (j : Job) : Bool := j.running.isNone

/-- The ticks from one tick count to a later one, across a wrap. -/
def ticksSince (t now : Tick) : Nat := (now - t).toNat

end Sys2Proof.Machine
end

