-- ==== Sys2Proof/Machine/Operands.lean ====
section
/-!
DEFINITION. The operand forms of requests: a number that must name a site, lane, plan, limit set or slot, a
two-valued field, a set of sites or lanes. Each answers none where the value is outside its range, which the
request refuses BAD_FIELD. And the time of the last edge of a run, for the rows of a measurement.
-/
namespace Sys2Proof.Machine

/-- A site, 0 to 15. -/
def siteOf? (n : Nat) : Option Site := if h : n < 16 then some ⟨n, h⟩ else none

/-- A lane, 0 to 3. -/
def laneOf? (n : Nat) : Option Lane := if h : n < 4 then some ⟨n, h⟩ else none

/-- A plan place, 0 to 23. -/
def planOf? (n : Nat) : Option PlanIx := if h : n < 24 then some ⟨n, h⟩ else none

/-- A limit-set place, 0 to 15. -/
def limitOf? (n : Nat) : Option LimitIx := if h : n < 16 then some ⟨n, h⟩ else none

/-- A handle, 0 to 47. -/
def handleOf? (n : Nat) : Option Handle := if h : n < 48 then some ⟨n, h⟩ else none

/-- A two-valued field (R193). -/
def flagOf? (n : Nat) : Option Bool := if n = 0 then some false else if n = 1 then some true else none

/-- An optional field whose value, when present, must read by `f`. -/
def optional? {α : Type} (f : Nat → Option α) : Option Nat → Option (Option α)
  | none => some none
  | some n => (f n).map some

/-- The sites of a site set, ascending (R192). -/
def sitesIn (m : BitVec 16) : List Site := allSites.filter fun i => m.getLsbD i.val

/-- The lanes of a lane set, ascending; none when a bit of 4 to 7 is set (R192). -/
def lanesIn? (m : BitVec 8) : Option (List Lane) :=
  if m.toNat < 16 then some (allLanes.filter fun l => m.getLsbD l.val) else none

/-- The settle ticks of SITE MODE, 1 to 5,000 (R17). -/
def settleOf? (n : Nat) : Option Nat := if 1 ≤ n ∧ n ≤ 5000 then some n else none

/-- The window sizes of READ SAMPLES (R155). -/
def windowOf? (n : Nat) : Option Nat := if n = 64 ∨ n = 128 ∨ n = 256 ∨ n = 512 then some n else none

/-- The time of the last edge of a run. -/
def lastEdge (r : EdgeRun) : Rat := r.first + (r.count - 1 : Nat) * r.period

end Sys2Proof.Machine
end

