-- ==== Sys2Proof/WellFormed.lean ====
section
/-!
DEFINITION. Which commands can be sent: each operand of a request fits the field of the body that carries
it (R192, R194, R195), and what the surroundings supply at an event is physically possible. A field may
well-formedly hold a value that the request's rule refuses: the refusal is the command's meaning.
-/
namespace Sys2Proof

/-- A number that a 1-byte field can carry (R192). -/
def fits8 (n : Nat) : Bool := n < 2 ^ 8
/-- A number that a 2-byte field can carry (R192). -/
def fits16 (n : Nat) : Bool := n < 2 ^ 16
/-- A number that a 4-byte field can carry (R192). -/
def fits32 (n : Nat) : Bool := n < 2 ^ 32
/-- A signed number that a 4-byte two's complement field can carry (R192). -/
def fitsInt32 (i : Int) : Bool := -(2 ^ 31) ≤ i && i < 2 ^ 31
/-- An optional field whose value, when present, passes `p`. -/
def fitsOpt (p : Nat → Bool) : Option Nat → Bool
  | none => true
  | some n => p n

/-- The plan record's fields fit their sizes of R195; the discard is carried less one in 1 byte and the
budget less one in 2 bytes (R192). -/
def Plan.fits (p : Plan) : Bool :=
  fits32 p.nominal && fits8 p.edge && fits16 p.stride && (1 ≤ p.discard && p.discard ≤ 256)
    && fits8 p.sampleExp && (match p.band with | none => true | some (lo, hi) => fits32 lo && fits32 hi)
    && fits8 p.spots.length && p.spots.all fits32 && fitsOpt fits8 p.limitSet && fits8 p.retryLimit
    && (1 ≤ p.budget && p.budget ≤ 65536) && fits16 p.window

/-- The limit entry's fields fit their sizes of R195. -/
def LimitEntry.fits (e : LimitEntry) : Bool :=
  fits8 e.selector && fits8 e.comparison && fitsInt32 e.lo && fitsInt32 e.hi && fits8 e.bin

/-- The kind byte of a request kind, by the table of R194. -/
def isRequestKind (k : Byte) : Bool :=
  [0x01, 0x02, 0x03, 0x04, 0x08, 0x09, 0x0A, 0x0B, 0x10, 0x11, 0x12, 0x13, 0x14, 0x15, 0x16,
   0x20, 0x21, 0x22, 0x23, 0x24, 0x25, 0x26, 0x28, 0x29, 0x2A, 0x2B, 0x2F, 0x30, 0x31, 0x32,
   0x38, 0x3C, 0x3D, 0x3E, 0x3F].contains k.toNat

/-- A WRITE PLAN body with this record fits the largest frame (R174, R195): 22 bytes that every body has,
8 of a band, 4 of each spot offset and 1 of a limit set. -/
def Plan.bodyFits (p : Plan) : Bool :=
  22 + (if p.band.isSome then 8 else 0) + 4 * p.spots.length + (if p.limitSet.isSome then 1 else 0) ≤ 240

/-- Runs of one polarity, each with an edge and a positive spacing, follow one another in time. -/
def runsInOrder : List EdgeRun → Bool
  | [] => true
  | r :: rest =>
    1 ≤ r.count && 0 < r.period && (rest.head?.all fun n => Machine.lastEdge r < n.first) && runsInOrder rest

/-- Edges that can come on a path: those of each polarity follow one another in time. -/
def edgesFit (edges : List EdgeRun) : Bool :=
  runsInOrder (edges.filter (·.falling)) && runsInOrder (edges.filter fun r => !r.falling)

/-- Edges that have come by a time. -/
def edgesFitBy (time : Rat) (edges : List EdgeRun) : Bool :=
  edgesFit edges && edges.all fun r => Machine.lastEdge r ≤ time

/-- Edges that have come after one time and by another. -/
def edgesFitBetween (since time : Rat) (edges : List EdgeRun) : Bool :=
  edgesFitBy time edges && edges.all fun r => since < r.first

/-- A command that can be sent. -/
def WellFormed : Instr → Bool
  | .siteMode _ site enable autopower settle =>
    fits8 site && fitsOpt fits8 enable && fitsOpt fits8 autopower && fitsOpt fits16 settle
  | .powerOn _ site | .powerOff _ site | .clearSite _ site => fits8 site
  | .querySites _ | .queryTimebase _ => true
  | .queryLane _ lane | .recalibrate _ lane | .laneModeEnable _ lane | .laneModeDisable _ lane => fits8 lane
  | .writePlan _ index plan => fits8 index && plan.fits && plan.bodyFits
  | .erasePlan _ index | .readPlan _ index => fits8 index
  | .writeLimits _ index entries => fits8 index && entries.length ≤ 21 && entries.all LimitEntry.fits
  | .eraseLimits _ index | .readLimits _ index => fits8 index
  | .protect _ boundary _ => fitsOpt fits8 boundary
  | .measure _ site plan => fits8 site && fits8 plan
  | .screen _ _ plan => fits8 plan
  | .checkPaths _ _ _ => true
  | .cancel _ selector value => fits8 selector && fits8 value
  | .pause _ | .resume _ | .queryQueue _ => true
  | .snapshot _ _ => true
  | .readSnapshot _ lane => fits8 lane
  | .readSamples _ lane start window follow => fits8 lane && fits16 start && fits16 window && fits8 follow
  | .nextBlock => true
  | .releaseLane _ lane => fits8 lane
  | .takeCompletion _ => true
  | .readResult _ handle | .freeResult _ handle => fits8 handle
  | .queryPaths _ site => fitsOpt fits8 site
  | .setConfig _ setting value => fits8 setting && fits32 value
  | .getConfig _ setting => fits8 setting
  | .readAlerts _ | .restart _ => true
  | .badKindRequest kind rest => !isRequestKind kind && rest.length ≤ 239
  | .receiveByte _ _ | .gapExpiry | .replyComplete | .restartIssue | .restartBusyWindowEnd => true
  | .resetAssert | .resetEnd _ _ | .serviceTick _ _ _ => true
  | .contactRise _ | .contactFall _ | .supplyFaultTrip _ | .settleExpiry _ | .quietExpiry _ => true
  | .checkIntervalEnd _ => true
  | .calCounterExpiry _ | .quietTimeCalibration _ => true
  | .calibrationComplete _ gain spread => gain ≤ 1023 && 0 ≤ spread
  | .lanePairing | .attachEnd _ => true
  | .noSignalWindowEnd _ edges => edgesFit edges
  | .lockAcquired seen | .lockWindowEnd seen | .lossOfLock seen | .discardComplete seen =>
    edgesFitBy seen.time seen.edges
  | .coarseFrequencyCheck _ edges since time | .sampleComplete _ edges since time =>
    edgesFitBetween since time edges
  | .checkCaptureEnd _ | .reductionEnd _ | .budgetExpiry _ | .holdExpiry _ => true

end Sys2Proof
end

