-- ==== Sys2Proof/Decode.lean ====
section
/-!
DEFINITION. The serial line's coding: bytes and fields (R192), the codes of R193, the check byte (R191), the
reading of a request body into a command with the faults of R179 step 4, and the body of a request. The
opcode table gives no row any bits, so `decodeTableWord` answers none.
-/
namespace Sys2Proof

/-- The sync byte (R191). -/
def syncByte : Byte := 0xC3

/-- The kind byte of NEXT (R194). -/
def nextKind : Byte := 0x2F

/-! ### Fields (R192) -/

/-- A field of 1 byte. -/
def be8 (n : Nat) : List Byte := [BitVec.ofNat 8 n]

/-- A field of 2 bytes, most significant first. -/
def be16 (n : Nat) : List Byte := [BitVec.ofNat 8 (n / 256), BitVec.ofNat 8 n]

/-- A field of 4 bytes, most significant first. -/
def be32 (n : Nat) : List Byte := be16 (n / 65536) ++ be16 n

/-- A signed field: 4 bytes in two's complement. -/
def beInt (i : Int) : List Byte := be32 (i % 2 ^ 32).toNat

/-- A two-valued field: 0 DISABLE, OFF, no; 1 ENABLE, ON, yes. -/
def beBool (b : Bool) : List Byte := [if b then 1 else 0]

/-- An optional field: a presence byte and, when present, the field. -/
def beOpt {α : Type} (f : α → List Byte) : Option α → List Byte
  | none => [0]
  | some a => 1 :: f a

/-- A variable-length list: a count byte and the elements. -/
def beList {α : Type} (f : α → List Byte) (l : List α) : List Byte :=
  be8 l.length ++ l.flatMap f

/-! ### The check byte (R191) -/

/-- One bit of the CRC-8 with polynomial 0x07. -/
def crcBit (c : Byte) : Byte :=
  if c.msb then (c <<< 1) ^^^ 0x07 else c <<< 1

/-- One byte of the CRC-8, most significant bit first. -/
def crcByte (c b : Byte) : Byte :=
  (List.range 8).foldl (fun a _ => crcBit a) (c ^^^ b)

/-- The CRC-8 of a run of bytes, initial value 0. -/
def crc8 (bs : List Byte) : Byte := bs.foldl crcByte 0

/-- A frame: sync byte, length byte, body, check byte over the length and the body. -/
def frameOf (body : List Byte) : List Byte :=
  let len : Byte := BitVec.ofNat 8 body.length
  syncByte :: len :: (body ++ [crc8 (len :: body)])

/-! ### Codes (R191, R193) -/

/-- The code of a site state. -/
def SiteState.code : SiteState → Nat
  | .disabled => 0 | .vacant => 1 | .seated => 2 | .powerPending => 3 | .settling => 4 | .ready => 5 | .fault => 6

/-- The code of a lane state. -/
def LaneState.code : LaneState → Nat
  | .disabled => 0 | .faulted => 1 | .uncalibrated => 2 | .idle => 3 | .calibrating => 4
  | .attaching => 5 | .acquiring => 6 | .discarding => 7 | .capturing => 8 | .reducing => 9

/-- The code of a reference state. -/
def RefState.code : RefState → Nat
  | .absent => 0 | .qualifying => 1 | .locked => 2

/-- The code of a tick source. -/
def TickSource.code : TickSource → Nat
  | .backup => 0 | .refin => 1

/-- The code of a job kind. -/
def JobKind.code : JobKind → Nat
  | .measure => 0 | .check => 1

/-- The code of a termination code. -/
def TermCode.code : TermCode → Nat
  | .normal => 0 | .noSignal => 1 | .offFrequency => 2 | .noLock => 3 | .timeout => 4 | .supplyFault => 5
  | .contactLost => 6 | .powerRemoved => 7 | .disturbed => 8 | .cancelled => 9 | .siteGone => 10 | .noPath => 11

/-- The code of a class. -/
def TermClass.code : TermClass → Nat
  | .normal => 0 | .abnormal => 1 | .interrupted => 2

/-- The code of a path rating. -/
def Rating.code : Rating → Nat
  | .unchecked => 0 | .good => 1 | .marginal => 2 | .bad => 3

/-- The code of a status (R191). -/
def Status.code : Status → Nat
  | .ok => 0 | .badKind => 1 | .badLength => 2 | .badField => 3 | .state => 4 | .busy => 5
  | .full => 6 | .inUse => 7 | .isProtected => 8 | .noSuch => 9 | .noPath => 10

/-- The reason byte of a NAK (R191). -/
def NakReason.code : NakReason → Nat
  | .check => 1 | .length => 2 | .gap => 3

/-- The bit of an alert in the flag sets of R193. -/
def Alert.bit : Alert → Nat
  | .restarted => 0 | .reference => 1 | .laneFaulted => 2 | .supplyFault => 3 | .holdExpired => 4 | .linkError => 5

/-! ### Reading a body (R179 step 4)

A reader takes fields from the front of the bytes. It fails BAD_LENGTH where the bytes end before the
field, and BAD_FIELD at a presence byte other than 0 and 1. -/

/-- A reader of fields. -/
abbrev Reader := StateT (List Byte) (Except Status)

/-- Reads 1 byte. -/
def byte : Reader Byte := fun
  | [] => .error .badLength
  | b :: rest => .ok (b, rest)

/-- Reads an unsigned field of 1 byte. -/
def u8 : Reader Nat := do
  let b ← byte
  return b.toNat

/-- Reads an unsigned field of 2 bytes. -/
def u16 : Reader Nat := do
  let a ← u8
  let b ← u8
  return a * 256 + b

/-- Reads an unsigned field of 4 bytes. -/
def u32 : Reader Nat := do
  let a ← u16
  let b ← u16
  return a * 65536 + b

/-- Reads a signed field of 4 bytes. -/
def i32 : Reader Int := do
  let n ← u32
  return if n < 2 ^ 31 then (n : Int) else (n : Int) - 2 ^ 32

/-- Reads an optional field. -/
def opt {α : Type} (p : Reader α) : Reader (Option α) := do
  let b ← u8
  if b = 0 then return none
  else if b = 1 then
    let a ← p
    return some a
  else throw .badField

/-- Reads a given number of elements. -/
def times {α : Type} (p : Reader α) : Nat → Reader (List α)
  | 0 => return []
  | n + 1 => do
    let a ← p
    let l ← times p n
    return a :: l

/-- Reads a counted list. -/
def counted {α : Type} (p : Reader α) : Reader (List α) := do
  let n ← u8
  times p n

/-- Reads the end of the body: bytes that go on after the fields are BAD_LENGTH. -/
def ended : Reader Unit := fun
  | [] => .ok ((), [])
  | _ :: _ => .error .badLength

/-- Reads a plan record (R195). -/
def planRecord : Reader Plan := do
  let nominal ← u32
  let edge ← u8
  let stride ← u16
  let discard ← u8
  let sampleExp ← u8
  let metrics ← byte
  let band ← opt (do
    let lo ← u32
    let hi ← u32
    return (lo, hi))
  let spots ← counted u32
  let limitSet ← opt u8
  let retryLimit ← u8
  let budget ← u16
  let window ← u16
  let flags ← byte
  return { nominal, edge, stride, discard := discard + 1, sampleExp, metrics, band, spots, limitSet,
           retryLimit, budget := budget + 1, window, flags }

/-- Reads a limit entry (R195). -/
def limitEntry : Reader LimitEntry := do
  let selector ← u8
  let comparison ← u8
  let lo ← i32
  let hi ← i32
  let bin ← u8
  return { selector, comparison, lo, hi, bin }

/-- Reads a set of sites: 2 bytes, bit s for site s. -/
def siteSet : Reader (BitVec 16) := do
  let n ← u16
  return BitVec.ofNat 16 n

/-- Reads the fields of the request of a kind to the end of the body (R194). An action of POWER or of LANE
MODE other than its two is no row of the table; it is refused BAD_FIELD as R18 and R39 say. `setup` is the
level of SETUP as the body completes. -/
def requestFields (setup : Bool) (kind tag : Byte) : Reader Instr := do
  match kind.toNat with
  | 0x01 =>
    let site ← u8
    let enable ← opt u8
    let autopower ← opt u8
    let settle ← opt u16
    ended
    return .siteMode tag site enable autopower settle
  | 0x02 =>
    let site ← u8
    let action ← u8
    ended
    if action = 1 then return .powerOn tag site
    else if action = 0 then return .powerOff tag site
    else throw .badField
  | 0x03 =>
    let site ← u8
    ended
    return .clearSite tag site
  | 0x04 =>
    ended
    return .querySites tag
  | 0x08 =>
    ended
    return .queryTimebase tag
  | 0x09 =>
    let lane ← u8
    ended
    return .queryLane tag lane
  | 0x0A =>
    let lane ← u8
    ended
    return .recalibrate tag lane
  | 0x0B =>
    let lane ← u8
    let action ← u8
    ended
    if action = 1 then return .laneModeEnable tag lane
    else if action = 0 then return .laneModeDisable tag lane
    else throw .badField
  | 0x10 =>
    let index ← u8
    let plan ← planRecord
    ended
    return .writePlan tag index plan
  | 0x11 =>
    let index ← u8
    ended
    return .erasePlan tag index
  | 0x12 =>
    let index ← u8
    ended
    return .readPlan tag index
  | 0x13 =>
    let index ← u8
    let entries ← counted limitEntry
    ended
    return .writeLimits tag index entries
  | 0x14 =>
    let index ← u8
    ended
    return .eraseLimits tag index
  | 0x15 =>
    let index ← u8
    ended
    return .readLimits tag index
  | 0x16 =>
    let boundary ← opt u8
    ended
    return .protect tag boundary setup
  | 0x20 =>
    let site ← u8
    let plan ← u8
    ended
    return .measure tag site plan
  | 0x21 =>
    let sites ← siteSet
    let plan ← u8
    ended
    return .screen tag sites plan
  | 0x22 =>
    let sites ← siteSet
    let lanes ← byte
    ended
    return .checkPaths tag sites lanes
  | 0x23 =>
    let selector ← u8
    let value ← u8
    ended
    return .cancel tag selector value
  | 0x24 =>
    ended
    return .pause tag
  | 0x25 =>
    ended
    return .resume tag
  | 0x26 =>
    ended
    return .queryQueue tag
  | 0x28 =>
    let lanes ← byte
    ended
    return .snapshot tag lanes
  | 0x29 =>
    let lane ← u8
    ended
    return .readSnapshot tag lane
  | 0x2A =>
    let lane ← u8
    let start ← u16
    let window ← u16
    let follow ← u8
    ended
    return .readSamples tag lane start window follow
  | 0x2B =>
    let lane ← u8
    ended
    return .releaseLane tag lane
  | 0x30 =>
    ended
    return .takeCompletion tag
  | 0x31 =>
    let handle ← u8
    ended
    return .readResult tag handle
  | 0x32 =>
    let handle ← u8
    ended
    return .freeResult tag handle
  | 0x38 =>
    let site ← opt u8
    ended
    return .queryPaths tag site
  | 0x3C =>
    let setting ← u8
    let value ← u32
    ended
    return .setConfig tag setting value
  | 0x3D =>
    let setting ← u8
    ended
    return .getConfig tag setting
  | 0x3E =>
    ended
    return .readAlerts tag
  | 0x3F =>
    ended
    return .restart tag
  | _ => throw .badKind

/-- Reads a body into a request, or gives the refusal of steps 3 and 4 of R179. A NEXT body is its kind
byte alone; a body of one byte of any other kind is BAD_LENGTH. -/
def readBody (setup : Bool) : List Byte → Except Status Instr
  | [] => .error .badLength
  | kind :: rest =>
    if !isRequestKind kind then .error .badKind
    else if kind = nextKind then
      (match rest with
       | [] => .ok .nextBlock
       | _ :: _ => .error .badLength)
    else
      match rest with
      | [] => .error .badLength
      | tag :: fields =>
        match (requestFields setup kind tag).run fields with
        | .error e => .error e
        | .ok (i, _) => .ok i

/-- The tag of a body: its second byte. NEXT and a one-byte body have none, and their replies carry 0
(R179; log 12 for a NEXT body of two or more bytes). -/
def bodyTag : List Byte → Byte
  | kind :: tag :: _ => if kind = nextKind then 0 else tag
  | _ => 0

/-! ### The body of a request (R194, R195) -/

/-- The bytes of a plan record. -/
def Plan.bytes (p : Plan) : List Byte :=
  be32 p.nominal ++ be8 p.edge ++ be16 p.stride ++ be8 (p.discard - 1) ++ be8 p.sampleExp ++ [p.metrics]
    ++ beOpt (fun b : Nat × Nat => be32 b.1 ++ be32 b.2) p.band ++ beList be32 p.spots ++ beOpt be8 p.limitSet
    ++ be8 p.retryLimit ++ be16 (p.budget - 1) ++ be16 p.window ++ [p.flags]

/-- The bytes of a limit entry. -/
def LimitEntry.bytes (e : LimitEntry) : List Byte :=
  be8 e.selector ++ be8 e.comparison ++ beInt e.lo ++ beInt e.hi ++ be8 e.bin

/-- The body of a request command; an event has none. -/
def requestBody : Instr → List Byte
  | .siteMode tag site enable autopower settle =>
    [0x01, tag] ++ be8 site ++ beOpt be8 enable ++ beOpt be8 autopower ++ beOpt be16 settle
  | .powerOn tag site => [0x02, tag] ++ be8 site ++ be8 1
  | .powerOff tag site => [0x02, tag] ++ be8 site ++ be8 0
  | .clearSite tag site => [0x03, tag] ++ be8 site
  | .querySites tag => [0x04, tag]
  | .queryTimebase tag => [0x08, tag]
  | .queryLane tag lane => [0x09, tag] ++ be8 lane
  | .recalibrate tag lane => [0x0A, tag] ++ be8 lane
  | .laneModeEnable tag lane => [0x0B, tag] ++ be8 lane ++ be8 1
  | .laneModeDisable tag lane => [0x0B, tag] ++ be8 lane ++ be8 0
  | .writePlan tag index plan => [0x10, tag] ++ be8 index ++ plan.bytes
  | .erasePlan tag index => [0x11, tag] ++ be8 index
  | .readPlan tag index => [0x12, tag] ++ be8 index
  | .writeLimits tag index entries => [0x13, tag] ++ be8 index ++ beList LimitEntry.bytes entries
  | .eraseLimits tag index => [0x14, tag] ++ be8 index
  | .readLimits tag index => [0x15, tag] ++ be8 index
  | .protect tag boundary _ => [0x16, tag] ++ beOpt be8 boundary
  | .measure tag site plan => [0x20, tag] ++ be8 site ++ be8 plan
  | .screen tag sites plan => [0x21, tag] ++ be16 sites.toNat ++ be8 plan
  | .checkPaths tag sites lanes => [0x22, tag] ++ be16 sites.toNat ++ [lanes]
  | .cancel tag selector value => [0x23, tag] ++ be8 selector ++ be8 value
  | .pause tag => [0x24, tag]
  | .resume tag => [0x25, tag]
  | .queryQueue tag => [0x26, tag]
  | .snapshot tag lanes => [0x28, tag] ++ [lanes]
  | .readSnapshot tag lane => [0x29, tag] ++ be8 lane
  | .readSamples tag lane start window follow =>
    [0x2A, tag] ++ be8 lane ++ be16 start ++ be16 window ++ be8 follow
  | .nextBlock => [nextKind]
  | .releaseLane tag lane => [0x2B, tag] ++ be8 lane
  | .takeCompletion tag => [0x30, tag]
  | .readResult tag handle => [0x31, tag] ++ be8 handle
  | .freeResult tag handle => [0x32, tag] ++ be8 handle
  | .queryPaths tag site => [0x38, tag] ++ beOpt be8 site
  | .setConfig tag setting value => [0x3C, tag] ++ be8 setting ++ be32 value
  | .getConfig tag setting => [0x3D, tag] ++ be8 setting
  | .readAlerts tag => [0x3E, tag]
  | .restart tag => [0x3F, tag]
  | .badKindRequest kind rest => kind :: rest
  | .receiveByte _ _ | .gapExpiry | .replyComplete | .restartIssue | .restartBusyWindowEnd => []
  | .resetAssert | .resetEnd _ _ | .serviceTick _ _ _ => []
  | .contactRise _ | .contactFall _ | .supplyFaultTrip _ | .settleExpiry _ | .quietExpiry _ => []
  | .checkIntervalEnd _ | .calCounterExpiry _ | .quietTimeCalibration _ | .calibrationComplete _ _ _ => []
  | .lanePairing | .attachEnd _ | .noSignalWindowEnd _ _ | .coarseFrequencyCheck _ _ _ _ => []
  | .lockAcquired _ | .lockWindowEnd _ | .lossOfLock _ | .discardComplete _ => []
  | .sampleComplete _ _ _ _ => []
  | .checkCaptureEnd _ | .reductionEnd _ | .budgetExpiry _ | .holdExpiry _ => []

/-! ### The opcode table's bits -/

/-- The command that a word spells by the bits of spec/opcode_table.json. No row of the table gives bits
(log 32), so no word spells a command. -/
def decodeTableWord (_nbits _w : Nat) : Option Instr := none

end Sys2Proof
end

