-- ==== Sys2Proof/Machine/Flags.lean ====
section
/-!
DEFINITION. The alert flags and masks (R184), completion pending (R137), the output lines ATTN, SUPPLY_EN
and the injection switches, which follow the state (R185, R2, R163), and the flag sets of R193.
-/
namespace Sys2Proof.Machine

/-- The flag bit of an alert. -/
def alertBit (a : Alert) : BitVec 6 := 1#6 <<< a.bit

/-- Raises an alert that has no mask (R184). -/
def raiseAlert (a : Alert) (s : State) : State :=
  s.modLink fun k => { k with alerts := { k.alerts with flags := k.alerts.flags ||| alertBit a } }

/-- Raises LANE_FAULTED for a lane (R36, R184). -/
def raiseLaneFaulted (l : Lane) (s : State) : State :=
  (raiseAlert .laneFaulted s).modLink fun k =>
    { k with alerts := { k.alerts with laneFaulted := k.alerts.laneFaulted ||| (1#4 <<< l.val) } }

/-- Raises SUPPLY_FAULT for a site (R13, R184). -/
def raiseSupplyFault (i : Site) (s : State) : State :=
  (raiseAlert .supplyFault s).modLink fun k =>
    { k with alerts := { k.alerts with supplyFault := k.alerts.supplyFault ||| (1#16 <<< i.val) } }

/-- Raises HOLD_EXPIRED for a lane (R151, R184). -/
def raiseHoldExpired (l : Lane) (s : State) : State :=
  (raiseAlert .holdExpired s).modLink fun k =>
    { k with alerts := { k.alerts with holdExpired := k.alerts.holdExpired ||| (1#4 <<< l.val) } }

/-- The flag of an alert is set. -/
def State.alertSet (s : State) (a : Alert) : Bool := s.link.alerts.flags.getLsbD a.bit

/-- Completion pending (R137). -/
def completionPending (s : State) : Bool := !s.results.queue.isEmpty

/-- ATTN is asserted (R185); it is released while RESETn is held (R183). -/
def attn (s : State) : Bool :=
  s.pins.resetn
    && (completionPending s || (s.link.alerts.flags &&& s.link.settings.alertMask) != 0)

/-- The level of a site's SUPPLY_EN line (R1, R2). -/
def supplyEn (s : State) (i : Site) : Bool := (s.site i).supply

/-- The injection switch of a site is closed: while a CHECK job has it attached (R163, R172). -/
def injectionClosed (s : State) (i : Site) : Bool := (s.site i).attachedKind == some .check

/-- The flag byte of a figure (R193). -/
def FigureFlags.code (f : FigureFlags) : Nat :=
  (if f.saturated then 1 else 0) + (if f.floorCorrected then 2 else 0) + (if f.belowFloor then 4 else 0)
    + (if f.noFloor then 8 else 0)

/-- No flag of a figure. -/
def FigureFlags.none : FigureFlags := ⟨false, false, false, false⟩

/-- The flag byte of a snapshot record (R193). -/
def SnapshotRecord.flagCode (r : SnapshotRecord) : Nat :=
  (if r.noData then 1 else 0) + (if r.live then 2 else 0)

end Sys2Proof.Machine

namespace Sys2Proof

/-- PERIOD is in the metric set (R193). -/
def Plan.hasPeriod (p : Plan) : Bool := p.metrics.getLsbD 0
/-- C2C is in the metric set. -/
def Plan.hasC2c (p : Plan) : Bool := p.metrics.getLsbD 1
/-- TIE is in the metric set. -/
def Plan.hasTie (p : Plan) : Bool := p.metrics.getLsbD 2
/-- PHASE is in the metric set. -/
def Plan.hasPhase (p : Plan) : Bool := p.metrics.getLsbD 3
/-- The plan flag KEEP_SAMPLES. -/
def Plan.keepSamples (p : Plan) : Bool := p.flags.getLsbD 0
/-- The plan flag FLOOR_CORRECT. -/
def Plan.floorCorrect (p : Plan) : Bool := p.flags.getLsbD 1
/-- The chosen polarity is FALLING (R44, R193). -/
def Plan.falling (p : Plan) : Bool := p.edge == 1
/-- The sample count, 2^k (R44, R192). -/
def Plan.sampleCount (p : Plan) : Nat := 2 ^ p.sampleExp

end Sys2Proof
end

