-- ==== Sys2Proof/Machine/Numeric.lean ====
section
/-!
DEFINITION. Exact arithmetic and its one rounding at the end: rounding and clamping (R111, R120), rounded
square roots of exact squares, and, for the spectrum of R117 to R119, cosines, sines, pi and the rounded
logarithm. Cosines, sines and pi are computed to about 200 binary places (log 15); all else is exact.
-/
namespace Sys2Proof.Machine

/-! ### Rounding (R120) -/

/-- The nearest integer, halves away from zero. -/
def roundHalfAway (q : Rat) : Int :=
  let n := (2 * q.num.natAbs + q.den) / (2 * q.den)
  if q.num < 0 then -(n : Int) else (n : Int)

/-- The nearer end of a range, or the value itself inside it. -/
def clampInt (lo hi x : Int) : Int := if x < lo then lo else if hi < x then hi else x

/-- The least of the signed 32-bit range. -/
def int32Min : Int := -2147483648
/-- The most of the signed 32-bit range. -/
def int32Max : Int := 2147483647

/-- One binary place of an integer square root: `r` is the root of the places above it. -/
def sqrtPlace (n r k : Nat) : Nat :=
  let c := r + 2 ^ k
  if c * c ≤ n then c else r

/-- The integer square root, place by place from the highest. -/
def natSqrt (n : Nat) : Nat :=
  (List.range (n.log2 / 2 + 1)).reverse.foldl (sqrtPlace n) 0

/-- The square root of an exact square, rounded to the nearest integer, halves up; 0 for a negative one. -/
def roundSqrt (q : Rat) : Nat :=
  if q.num < 0 then 0 else (natSqrt (4 * q.num.natAbs / q.den) + 1) / 2

/-! ### Lists of exact values -/

/-- The sum of a list. -/
def sumRat (l : List Rat) : Rat := l.foldl (· + ·) 0

/-- The mean of a list. -/
def meanRat (l : List Rat) : Rat := sumRat l / (l.length : Nat)

/-- The mean of the squares of a list. -/
def meanSquare (l : List Rat) : Rat := meanRat (l.map fun x => x * x)

/-- The largest less the smallest of a list; 0 for an empty one. -/
def spanRat : List Rat → Rat
  | [] => 0
  | x :: l => l.foldl max x - l.foldl min x

/-! ### Cosines, sines and pi, as fixed-point numbers -/

/-- The binary places of the fixed-point numbers. -/
def fixedPlaces : Nat := 224

/-- One as a fixed-point number. -/
def fixedOne : Int := 2 ^ fixedPlaces

/-- The terms of the arctangent series of 1 / x: `p` is 1 / x^(2k+1) and `k` counts the terms. -/
def atanTerms (x : Int) : Nat → Int → Int → Int
  | 0, _, _ => 0
  | n + 1, k, p => (if k % 2 = 0 then p else -p) / (2 * k + 1) + atanTerms x n (k + 1) (p / (x * x))

/-- The arctangent of 1 / x, by 120 terms of its series. -/
def fixedAtanInv (x : Int) : Int := atanTerms x 120 0 (fixedOne / x)

/-- Pi, by Machin's formula: 16 atan (1 / 5) - 4 atan (1 / 239). -/
def fixedPi : Int := 16 * fixedAtanInv 5 - 4 * fixedAtanInv 239

/-- The terms of the cosine series: `t` is the term before, `k` its number. -/
def cosTerms (xx : Int) : Nat → Int → Int → Int
  | 0, _, _ => 0
  | n + 1, k, t =>
    let t' := -(t * xx / fixedOne) / ((2 * k + 1) * (2 * k + 2))
    t' + cosTerms xx n (k + 1) t'

/-- The cosine of 2 pi i / 1,024 for i from 0 to 256, the first quarter of the circle. -/
def quarterCos (i : Nat) : Int :=
  if i = 256 then 0
  else
    let x := fixedPi * (i : Int) / 512
    fixedOne + cosTerms (x * x / fixedOne) 40 0 fixedOne

/-- The cosine of 2 pi i / 1,024 for i from 0 to 511, the first half of the circle, as a fraction. -/
def halfCos (i : Nat) : Rat :=
  (if i ≤ 256 then quarterCos i else -quarterCos (512 - i) : Int) / fixedOne

/-- The sine of 2 pi i / 1,024 for i from 0 to 511: the cosine a quarter of the circle away. -/
def halfSin (i : Nat) : Rat := halfCos (if i ≤ 256 then 256 - i else i - 256)

/-- Pi as a fraction. -/
def piRat : Rat := fixedPi / fixedOne

/-! ### The rounded logarithm (R118) -/

/-- The decimal digits of a number less one; the first argument bounds the digits. -/
def log10Nat : Nat → Nat → Nat
  | 0, _ => 0
  | f + 1, n => if n < 10 then 0 else 1 + log10Nat f (n / 10)

/-- The whole part of the base-ten logarithm of a positive fraction. -/
def floorLog10 (q : Rat) : Int :=
  let n := q.num.natAbs
  if q.den ≤ n then (log10Nat n.log2 (n / q.den) : Int)
  else
    let t := (q.den + n - 1) / n
    Int.negSucc (log10Nat t.log2 (t - 1))

/-- 100 times the base-ten logarithm of a positive fraction, rounded to the nearest integer. Twice that
is the logarithm of the 200th power, whose whole part says on which side of the half the value lies. -/
def round100Log10 (q : Rat) : Int :=
  (floorLog10 (q ^ 200) + 1) / 2

end Sys2Proof.Machine
end

