-- ==== Sys2Proof/Machine/Figures.lean ====
section
/-!
DEFINITION. The measured figures: the coarse error (R87), the raw form of a sample (R111), the running
figures (R144), the straight-line fit with FREQ and the time-domain figures (R113 to R116), the spectrum with
spot levels and PHASE_INT (R117 to R119), their rounding and range (R120) and the floor correction (R122).
-/
namespace Sys2Proof.Machine

/-- The parameters of a run that the lane reads: from the plan, or the fixed ones of a path check (R163). -/
structure RunParams where
  nominal : Nat
  stride : Nat
  window : Nat
  discard : Nat
  samples : Nat
  /-- The chosen polarity is FALLING, else RISING (R44, R86). -/
  falling : Bool
  deriving DecidableEq, Repr

/-- The nominal period in fs, exactly (R111). -/
def nominalPeriod (nominal : Nat) : Rat := (10 ^ 15 : Nat) / (nominal : Nat)

/-- A period lies within tolerance: from 7/8 to 9/8 of the nominal period (R88). -/
def inTolerance (nominal : Nat) (p : Rat) : Bool :=
  7 * nominalPeriod nominal ≤ 8 * p && 8 * p ≤ 9 * nominalPeriod nominal

/-- The coarse error in ppb: k edges span k - 1 periods (R87). None where the span is not positive, since
no time lies between the edges (log 17). Halves go away from zero (log 23). -/
def coarseError? (nominal edges : Nat) (span : Rat) : Option Rat :=
  if 0 < span then
    some ((((edges - 1 : Nat) * (10 ^ 15 : Nat) : Rat) / span / (nominal : Nat) - 1) * (10 ^ 9 : Nat))
  else none

/-- A frequency error in ppb, rounded and brought into the signed 32-bit range (R87, R113, R120). -/
def roundPpb (q : Rat) : Int := clampInt int32Min int32Max (roundHalfAway q)

/-! ### Raw forms and running figures -/

/-- The coarse period: the nominal period / (1 + coarse error × 10⁻⁹) (R111). -/
def coarsePeriod (nominal : Nat) (coarse : Int) : Rat :=
  nominalPeriod nominal / (1 + (coarse : Rat) / (10 ^ 9 : Nat))

/-- The raw form of the sample of a sequence number, `origin` being the timestamp of sample 0 (R111). -/
def rawForm (p : RunParams) (coarse : Int) (origin : Rat) (n : Nat) (x : Sample) : RawSample where
  timeError := clampInt int32Min int32Max
    (roundHalfAway (x.stamp - origin - (n * p.stride : Nat) * coarsePeriod p.nominal coarse))
  firstDev := roundHalfAway (x.first - nominalPeriod p.nominal)
  secondDev := roundHalfAway (x.second - nominalPeriod p.nominal)

/-- The accumulators take in a raw form (R144). -/
def accumulate (r : RawSample) : Option Accumulators → Accumulators
  | none => ⟨r.timeError, r.timeError, r.firstDev, r.firstDev * r.firstDev⟩
  | some a => ⟨min a.minError r.timeError, max a.maxError r.timeError, a.sumDev + r.firstDev,
      a.sumDevSq + r.firstDev * r.firstDev⟩

/-- The running raw TIE span (R144). -/
def runningSpan (a : Accumulators) : Int := a.maxError - a.minError

/-- The running mean period deviation over n samples (R144). -/
def runningMean (a : Accumulators) (n : Nat) : Int := roundHalfAway ((a.sumDev : Rat) / n)

/-- The running period rms over n samples (R144). -/
def runningRms (a : Accumulators) (n : Nat) : Int :=
  roundSqrt ((a.sumDevSq : Rat) / n - ((a.sumDev : Rat) / n) * ((a.sumDev : Rat) / n))

/-- The ring takes in a raw form: it adds it while fewer than 4,096 are held, and then replaces the oldest
(R91). `n` is the samples captured before it. -/
def ringWrite (jobId n : Nat) (r : RawSample) (ring : Option RingContent) : RingContent :=
  let held := match ring with
    | none => []
    | some c => c.samples
  { jobId := jobId
    first := n + 1 - Config.ringPlaces
    samples := (held ++ [r]).drop (held.length + 1 - Config.ringPlaces) }

/-! ### The straight line (R113) -/

/-- The least-squares slope and intercept of times over their numbers; none for fewer than two. -/
def fitLine (ys : List Rat) : Option (Rat × Rat) :=
  if ys.length < 2 then none
  else
    let n : Rat := (ys.length : Nat)
    let sx := n * (n - 1) / 2
    let sxx := (n - 1) * n * (2 * n - 1) / 6
    let sy := sumRat ys
    let sxy := sumRat (ys.mapIdx fun i y => (i : Rat) * y)
    let slope := (n * sxy - sx * sy) / (n * sxx - sx * sx)
    some (slope, (sy - slope * sx) / n)

/-- The residuals: each time less its expected time on the line. -/
def residuals (line : Rat × Rat) (ys : List Rat) : List Rat :=
  ys.mapIdx fun i y => y - (line.2 + line.1 * (i : Rat))

/-- FREQ in ppb before rounding; none where the line has no slope (log 17). -/
def freqOf (p : RunParams) (slope : Rat) : Option Rat :=
  if slope = 0 then none
  else some (((p.stride : Nat) * nominalPeriod p.nominal / slope - 1) * (10 ^ 9 : Nat))

/-! ### The spectrum (R117) -/

/-- The half-overlapped segments of 1,024 residuals that fit whole. -/
def segments (res : List Rat) : List (List Rat) :=
  if res.length < Config.segmentSamples then []
  else (List.range ((res.length - Config.segmentSamples) / 512 + 1)).map fun k => (res.drop (512 * k)).take 1024

/-- The Hann-weighted transform value of a bin is a sum of terms w × exp(2 pi i e / 1,024), since the
weight of sample j is 1/2 - (exp(2 pi i j / 1,024) + exp(-2 pi i j / 1,024)) / 4. Each term is (e, w) with
e below 1,024. -/
def binTerms (seg : List Rat) (m : Nat) : List (Nat × Rat) :=
  (seg.mapIdx fun j r =>
    [((1024 * 1024 - j * m) % 1024, r / 2), ((1024 * 1024 - j * (m - 1)) % 1024, -r / 4),
     ((1024 * 1024 - j * (m + 1)) % 1024, -r / 4)]).flatten

/-- The sum of the terms at the exponent e below 512, a term at e + 512 counted negative. The transform
value is exactly 0 when these are all 0. -/
def binCoeff (terms : List (Nat × Rat)) (e : Nat) : Rat :=
  sumRat (terms.map fun t => if t.1 = e then t.2 else if t.1 = e + 512 then -t.2 else 0)

/-- The squared magnitude of the transform value of a bin of a segment. -/
def binPower (seg : List Rat) (m : Nat) : Rat :=
  let terms := binTerms seg m
  let cs := (List.range 512).map (binCoeff terms)
  if cs.all (· == 0) then 0
  else
    let re := sumRat (cs.mapIdx fun e c => c * halfCos e)
    let im := sumRat (cs.mapIdx fun e c => c * halfSin e)
    re * re + im * im

/-- The sample rate in Hz (R45). -/
def sampleRate (p : RunParams) : Rat := (p.nominal : Rat) / (p.stride : Nat)

/-- The density of a bin in fs²/Hz: the mean over the segments of twice the power / (rate × 384). None
where no whole segment fits (log 17). -/
def binDensity (p : RunParams) (res : List Rat) (m : Nat) : Option Rat :=
  match segments res with
  | [] => none
  | segs => some (meanRat (segs.map fun g => 2 * binPower g m / (sampleRate p * 384)))

/-- The bin nearest an offset, the lower of two as near: the offset / resolution, rounded (R118). -/
def nearestBin (p : RunParams) (x : Nat) : Nat :=
  (2 * (x * p.stride * 1024) + p.nominal - 1) / (2 * p.nominal)

/-- The level of a density, in tenths of dBc/Hz, with SATURATED where the density is 0 (R118, R120). -/
def spotLevelOf (p : RunParams) (offset : Nat) (density : Rat) : SpotLevel :=
  if density ≤ 0 then ⟨offset, int32Min, true⟩
  else
    let w := 2 * piRat * (p.nominal : Nat)
    let level := round100Log10 (w * w * density / (2 * (10 ^ 30 : Nat)))
    ⟨offset, clampInt int32Min int32Max level, level < int32Min || int32Max < level⟩

/-- The square of PHASE_INT over the bins from `lo` to `hi`: their densities by the resolution (R119). -/
def phaseSquare (p : RunParams) (res : List Rat) (lo hi : Nat) : Option Rat :=
  match segments res with
  | [] => none
  | _ => some (sumRat ((List.range (hi + 1 - lo)).map fun k =>
      ((binDensity p res (lo + k)).getD 0) * (sampleRate p / 1024)))

/-! ### Figures, rounding and floors (R114 to R116, R120, R122) -/

/-- A jitter figure of a rounded value: clamped to its range, SATURATED beyond it (R120). -/
def jitterFigure (flags : FigureFlags) (v : Int) : Figure :=
  if int32Max < v then ⟨int32Max, { flags with saturated := true }⟩ else ⟨v, flags⟩

/-- A peak-to-peak figure (R114 to R116); never corrected. -/
def ppFigure (q : Rat) : Figure := jitterFigure .none (roundHalfAway q)

/-- An rms figure of an exact square without correction. -/
def rmsFigure (sq : Rat) : Figure := jitterFigure .none (roundSqrt sq)

/-- An rms figure of an exact square over a path entry, with FLOOR_CORRECT on (R122). -/
def correctedFigure (rating : Rating) (floor : Option Nat) (sq : Rat) : Figure :=
  match rating, floor with
  | .unchecked, _ => jitterFigure { FigureFlags.none with noFloor := true } (roundSqrt sq)
  | _, none => jitterFigure { FigureFlags.none with noFloor := true } (roundSqrt sq)
  | _, some f =>
    if ((f * f : Nat) : Rat) < sq then
      jitterFigure { FigureFlags.none with floorCorrected := true } (roundSqrt (sq - ((f * f : Nat) : Rat)))
    else jitterFigure { FigureFlags.none with belowFloor := true } 0

/-- The exact squares and spans of a capture, each none where the samples are too few (log 17). -/
structure Measures where
  freq : Option Rat
  tieSq : Option Rat
  tiePp : Option Rat
  periodSq : Option Rat
  periodPp : Option Rat
  c2cSq : Option Rat
  c2cPp : Option Rat
  deriving DecidableEq, Repr

/-- A value over a list, none for an empty one. -/
def overSamples (l : List Rat) (f : List Rat → Rat) : Option Rat :=
  match l with
  | [] => none
  | _ => some (f l)

/-- FREQ and the time-domain measures of a capture (R113 to R116). -/
def measuresOf (p : RunParams) (memory : List Sample) : Measures :=
  let ys := memory.map (·.stamp)
  let firsts := memory.map (·.first)
  let diffs := memory.map fun x => x.second - x.first
  let line := fitLine ys
  { freq := line.bind fun f => freqOf p f.1
    tieSq := line.map fun f => meanSquare (residuals f ys)
    tiePp := line.map fun f => spanRat (residuals f ys)
    periodSq := overSamples firsts fun l => meanSquare (l.map fun x => x - meanRat l)
    periodPp := overSamples firsts spanRat
    c2cSq := overSamples diffs meanSquare
    c2cPp := overSamples diffs spanRat }

/-- The residuals of a capture that the spectrum is formed from (R117). -/
def captureResiduals (memory : List Sample) : List Rat :=
  match fitLine (memory.map (·.stamp)) with
  | none => []
  | some f => residuals f (memory.map (·.stamp))

/-- What a reduction hands on (R123, R164): FREQ, the figures and the spot list. -/
structure Reduced where
  freq : Int
  figures : Figures
  spots : List SpotLevel
  deriving DecidableEq, Repr

/-- No figure. -/
def Figures.none : Figures := ⟨.none, .none, .none, .none, .none, .none, .none⟩

/-- The figures of a MEASURE reduction (R112): those of the plan's metric set, corrected against the path
entry when the plan asks for it. `free` gives the values the spec does not define (log 17). -/
def reduceMeasure (p : RunParams) (plan : Plan) (e : PathEntry) (memory : List Sample) (free : Nat → Rat) :
    Reduced :=
  let m := measuresOf p memory
  let res := captureResiduals memory
  let rms (floor : Option Nat) (sq : Rat) : Figure :=
    if plan.floorCorrect then correctedFigure e.rating floor sq else rmsFigure sq
  let band := plan.band.getD (0, 0)
  { freq := roundPpb (m.freq.getD (free 0))
    figures :=
      { periodRms := if plan.hasPeriod then some (rms e.floors.period (m.periodSq.getD (free 1))) else none
        periodPp := if plan.hasPeriod then some (ppFigure (m.periodPp.getD (free 2))) else none
        c2cRms := if plan.hasC2c then some (rms e.floors.c2c (m.c2cSq.getD (free 3))) else none
        c2cPp := if plan.hasC2c then some (ppFigure (m.c2cPp.getD (free 4))) else none
        tieRms := if plan.hasTie then some (rms e.floors.tie (m.tieSq.getD (free 5))) else none
        tiePp := if plan.hasTie then some (ppFigure (m.tiePp.getD (free 6))) else none
        phaseInt :=
          if plan.hasPhase then
            some (rms e.floors.phase
              ((phaseSquare p res (nearestBin p band.1) (nearestBin p band.2)).getD (free 7)))
          else none }
    spots :=
      if plan.hasPhase then
        plan.spots.mapIdx fun i x => spotLevelOf p x ((binDensity p res (nearestBin p x)).getD (free (8 + i)))
      else [] }

/-- A floor from a figure: none when it is SATURATED (R164). -/
def floorOf (f : Figure) : Option Nat := if f.flags.saturated then none else some f.value.toNat

/-- The floors of a path check, over bins 2 to 511 for PHASE (R164), and FREQ of the tone. -/
def reduceCheck (p : RunParams) (memory : List Sample) (free : Nat → Rat) : Int × Floors :=
  let m := measuresOf p memory
  (roundPpb (m.freq.getD (free 0)),
   { tie := floorOf (rmsFigure (m.tieSq.getD (free 1)))
     period := floorOf (rmsFigure (m.periodSq.getD (free 2)))
     c2c := floorOf (rmsFigure (m.c2cSq.getD (free 3)))
     phase := floorOf (rmsFigure ((phaseSquare p (captureResiduals memory) 2 511).getD (free 4))) })

/-- The free values a reduction may draw: 8 and one for each of 8 spots (log 17). -/
def reductionDraws : Nat := 16

end Sys2Proof.Machine
end

