-- ==== Sys2Proof/Machine/Results.lean ====
section
/-!
DEFINITION. The Result Store: classes and bins (R128), the verdict (R131 to R134), the filling of a slot with
its deposit notice (R16, R126, R127, R130, R135), and reservation (R125).
-/
namespace Sys2Proof.Machine

/-- The class of a termination code (R128). -/
def classOf : TermCode → TermClass
  | .normal => .normal
  | .noSignal | .offFrequency | .noLock | .timeout | .supplyFault => .abnormal
  | .contactLost | .powerRemoved | .disturbed | .cancelled | .siteGone | .noPath => .interrupted

/-- What the depositor of a result hands with it (R95, R106, R130). -/
structure Deposit where
  code : TermCode
  laneUsed : Option Lane
  start : Option Tick
  freqError : Option Int
  figures : Figures
  spots : List SpotLevel
  floors : Floors
  pathUpdated : Bool
  deriving DecidableEq, Repr

/-! ### The verdict (R133, R134) -/

/-- A value that an entry reads, and whether it is SATURATED. -/
def figureValue (f : Figure) : Int × Bool := (f.value, f.flags.saturated)

/-- The value of the result that a selector reads; none where it is absent (R133). FREQ is never SATURATED
(R113). -/
def selectedValue (d : Deposit) (selector : Nat) : Option (Int × Bool) :=
  match selector with
  | 0 => d.freqError.map fun v => (v, false)
  | 1 => d.figures.periodRms.map figureValue
  | 2 => d.figures.periodPp.map figureValue
  | 3 => d.figures.c2cRms.map figureValue
  | 4 => d.figures.c2cPp.map figureValue
  | 5 => d.figures.tieRms.map figureValue
  | 6 => d.figures.tiePp.map figureValue
  | 7 => d.figures.phaseInt.map figureValue
  | n => d.spots[n - 8]?.map fun x => (x.level, x.saturated)

/-- An entry fails on a value: a SATURATED one always, else by its comparison (R133). -/
def entryFails (e : LimitEntry) (v : Int × Bool) : Bool :=
  v.2 || !(match e.comparison with
    | 0 => v.1 ≤ e.hi
    | 1 => e.lo ≤ v.1
    | _ => e.lo ≤ v.1 && v.1 ≤ e.hi)

/-- What each entry of a set comes to, in list order: none where it is skipped, else whether it fails. -/
def judged (d : Deposit) (entries : List LimitEntry) : List (Option Bool) :=
  entries.map fun e => (selectedValue d e.selector).map (entryFails e)

/-- The verdict of a limit set (R134). -/
def judge (d : Deposit) (entries : List LimitEntry) : Verdict :=
  let outcomes := judged d entries
  let deciding := outcomes.findIdx? (· == some true)
  { bin := match deciding with
      | none => 0
      | some k => (entries[k]?.map (·.bin)).getD 0
    deciding := deciding
    skipped := outcomes.count none }

/-- The DEFINED limit set that a plan names, if any (R132). -/
def namedLimits (s : State) (p : PlanIx) : Option (List LimitEntry) :=
  ((s.plan p).bind (·.limitSet)).bind fun n => (limitOf? n).bind s.limitSet

/-- The verdict of a result (R131, R132). -/
def verdictOf (s : State) (w : Work) (d : Deposit) : Option Verdict :=
  match w, classOf d.code with
  | .measure p, .normal => (namedLimits s p).map (judge d)
  | .measure _, .abnormal => some ⟨7, none, 0⟩
  | _, _ => none

/-! ### Filling a slot -/

/-- The result record of a job that ends now (R127). -/
def recordOf (s : State) (j : Job) (d : Deposit) : ResultRecord where
  jobId := j.id
  work := j.work
  site := j.site
  batch := j.batch
  code := d.code
  laneUsed := d.laneUsed
  retries := j.retries
  preemptions := j.preemptions
  start := d.start
  endTick := s.now
  freqError := d.freqError
  figures := d.figures
  spots := d.spots
  verdict := verdictOf s j.work d
  floors := d.floors
  rating := match j.work with
    | .measure _ => .unchecked
    | .check l => (s.path j.site l).rating
  pathUpdated := d.pathUpdated

/-- The site takes the deposit notice of a MEASURE result (R16). -/
def takeNotice (jobId : Nat) (c : TermClass) (bin : Option Nat) (r : SiteRecord) : SiteRecord :=
  { r with
    lastJobId := some jobId
    completed := if c = .interrupted then r.completed else min 65535 (r.completed + 1)
    lastBin := match bin with
      | none => r.lastBin
      | some b => some b }

/-- Fills the job's slot: the record is built and judged, the handle joins the completion queue, and a
MEASURE job's site receives its notice (R126, R135). -/
def deposit (j : Job) (d : Deposit) (s : State) : State :=
  let r := recordOf s j d
  let s1 := (s.setSlot j.handle (.filled r)).modResults fun x => { x with queue := x.queue ++ [j.handle] }
  match j.work with
  | .measure _ => s1.modSite j.site (takeNotice j.id (classOf d.code) (r.verdict.map (·.bin)))
  | .check _ => s1

/-- A deposit without figures. -/
def bareDeposit (code : TermCode) (lane : Option Lane) (start : Option Tick) (freq : Option Int) : Deposit :=
  ⟨code, lane, start, freq, .none, [], .none, false⟩

/-! ### Slots -/

/-- The slot is FREE. -/
def Slot.isFree : Slot → Bool
  | .free => true
  | _ => false

/-- The slot is RESERVED. -/
def Slot.isReserved : Slot → Bool
  | .reserved => true
  | _ => false

/-- The record a FILLED or TAKEN slot holds. -/
def Slot.record? : Slot → Option ResultRecord
  | .filled r => some r
  | .taken r => some r
  | .free => none
  | .reserved => none

/-- The number of FREE slots (R63, R80). -/
def freeSlots (s : State) : Nat := allHandles.countP fun h => (s.slot h).isFree

/-- The lowest-numbered FREE slot (R125). -/
def lowestFree (s : State) : Option Handle := allHandles.find? fun h => (s.slot h).isFree

end Sys2Proof.Machine
end

