-- ==== Sys2Proof/Machine/Jobs.lean ====
section
/-!
DEFINITION. The job list: identifiers (R62), the values a job's plan or kind fixes (R60), ends in the list
(R74 to R76), the usable path of a site (R162), and the enqueue that MEASURE, SCREEN and CHECK PATHS share
(R61, R63 to R66, R125).
-/
namespace Sys2Proof.Machine

/-! ### What a job's kind or plan fixes (R60) -/

/-- The budget of a job, in ticks. A MEASURE job's plan is DEFINED while the job is listed (R50). -/
def jobBudget (s : State) : Work → Nat
  | .measure p => ((s.plan p).map (·.budget)).getD 0
  | .check _ => Config.checkBudget

/-- The retry limit of a job. -/
def jobRetryLimit (s : State) : Work → Nat
  | .measure p => ((s.plan p).map (·.retryLimit)).getD 0
  | .check _ => Config.checkRetries

/-- The plan has KEEP_SAMPLES (R97); a CHECK job keeps none. -/
def jobKeeps (s : State) : Work → Bool
  | .measure p => ((s.plan p).map Plan.keepSamples).getD false
  | .check _ => false

/-! ### Ends in the list (R74, R76) -/

/-- Removes the entry of a job id; the others keep their order (R61). -/
def removeJob (id : Nat) (s : State) : State := s.setJobs (s.jobs.eraseP fun j => j.id == id)

/-- Ends a QUEUED job in the list: the Job Controller removes its entry and fills its slot, with the lane
and start tick of its last run (R76). -/
def endInList (code : TermCode) (s : State) (j : Job) : State :=
  deposit j (bareDeposit code (j.lastRun.map (·.lane)) (j.lastRun.map (·.tick)) none) (removeJob j.id s)

/-- A QUEUED MEASURE entry for a site (R74). -/
def queuedMeasureFor (i : Site) (j : Job) : Bool := j.queued && j.work.kind == .measure && j.site == i

/-- The announcement of a site's entry into VACANT, FAULT or DISABLED: every QUEUED MEASURE entry for the
site ends SITE_GONE, in list order (R15, R74, R76). -/
def announce (i : Site) (s : State) : State :=
  (s.jobs.filter (queuedMeasureFor i)).foldl (endInList .siteGone) s

/-- A QUEUED CHECK entry whose target is a lane (R75). -/
def queuedCheckOn (l : Lane) (j : Job) : Bool := j.queued && j.work == .check l

/-- A lane's entry into DISABLED: every QUEUED CHECK entry with that target lane ends NO_PATH (R75). -/
def endChecksOn (l : Lane) (s : State) : State :=
  (s.jobs.filter (queuedCheckOn l)).foldl (endInList .noPath) s

/-! ### Identifiers (R62) -/

/-- The first of up to `fuel` values after `last`, upward and wrapping from 255 to 1, that is not in use. -/
def nextIdFrom (used : List Nat) : Nat → Nat → Nat
  | 0, last => last % 255 + 1
  | fuel + 1, last =>
    let c := last % 255 + 1
    if used.contains c then nextIdFrom used fuel c else c

/-- The next id after the last assigned one. -/
def nextId (last : Nat) (used : List Nat) : Nat := nextIdFrom used 255 last

/-- The next job id. -/
def nextJobId (s : State) : Nat := nextId s.jc.lastJobId (s.jobs.map (·.id))

/-- The next batch id. -/
def nextBatchId (s : State) : Nat := nextId s.jc.lastBatchId (s.jobs.filterMap (·.batch))

/-! ### Usable paths (R162) -/

/-- A path entry is usable for a MEASURE job. -/
def usable (requireChecked : Bool) (e : PathEntry) : Bool :=
  match e.rating with
  | .good | .marginal => true
  | .unchecked => !requireChecked
  | .bad => false

/-- The path from a site to a lane is usable. -/
def pathUsable (s : State) (i : Site) (l : Lane) : Bool := usable s.settings.requireChecked (s.path i l)

/-- A site has a usable path. -/
def hasUsablePath (s : State) (i : Site) : Bool := allLanes.any (pathUsable s i)

/-! ### Enqueue (R61, R63, R125) -/

/-- A job to be created: its work and its site. -/
structure NewJob where
  work : Work
  site : Site
  deriving DecidableEq, Repr

/-- Check 3 fails: the site's state does not take the job (R63). -/
def stateRefuses (s : State) (n : NewJob) : Bool :=
  match n.work, (s.site n.site).state with
  | .measure _, .disabled | .measure _, .vacant | .measure _, .fault => true
  | .check _, .fault => true
  | _, _ => false

/-- A listed job conflicts with a new one (R63 check 4). -/
def conflicts (n : NewJob) (j : Job) : Bool :=
  j.site == n.site && (match n.work, j.work with
    | .measure _, _ => true
    | .check _, .measure _ => true
    | .check a, .check b => a == b)

/-- Check 4 fails: an entry of the site conflicts. -/
def listRefuses (s : State) (n : NewJob) : Bool := s.jobs.any (conflicts n)

/-- Check 5 fails: no usable path, or a DISABLED target lane (R63). -/
def pathRefuses (s : State) (n : NewJob) : Bool :=
  match n.work with
  | .measure _ => !hasUsablePath s n.site
  | .check l => (s.lane l).state == .disabled

/-- Check 2 fails: the plan is EMPTY (R63). -/
def planRefuses (s : State) (n : NewJob) : Bool :=
  match n.work with
  | .measure p => (s.plan p).isNone
  | .check _ => false

/-- The first of checks 2 to 5 that fails for some new job, with the first job it fails for: new jobs stand
in ascending site order, and lane order within a site, so that job has the lowest site and lane (R63). -/
def enqueueRefusal (s : State) (news : List NewJob) : Option (Status × NewJob) :=
  match news.find? (planRefuses s) with
  | some n => some (.noSuch, n)
  | none =>
    match news.find? (stateRefuses s) with
    | some n => some (.state, n)
    | none =>
      match news.find? (listRefuses s) with
      | some n => some (.inUse, n)
      | none => (news.find? (pathRefuses s)).map fun n => (.noPath, n)

/-- Check 6 passes: list entries and FREE slots are enough (R63). -/
def hasRoom (s : State) (n : Nat) : Bool := s.jobs.length + n ≤ Config.jobPlaces && n ≤ freeSlots s

/-- Appends one new job: the next job id, the lowest FREE slot RESERVED, and the entry at the tail. -/
def appendJob (batch : Option Nat) (s : State) (n : NewJob) : State :=
  match lowestFree s with
  | none => s
  | some h =>
    let id := nextJobId s
    let j : Job :=
      { id := id, work := n.work, site := n.site, batch := batch, running := none, handle := h, retries := 0,
        preemptions := 0, enqueued := s.now, lastRun := none }
    (s.setSlot h .reserved).modJc fun c => { c with jobs := c.jobs ++ [j], lastJobId := id }

/-- Appends new jobs in order. -/
def appendJobs (batch : Option Nat) (news : List NewJob) (s : State) : State :=
  news.foldl (appendJob batch) s

end Sys2Proof.Machine
end

