-- ==== Sys2Proof/Machine/LaneEnds.lean ====
section
/-!
DEFINITION. Switch-ons and their release at the last detach (R6 to R9, R12), the end of a job on its lane
(R94 to R98, R166) and the giving back of a job (R73, R96).
-/
namespace Sys2Proof.Machine

/-! ### Quads and switch-ons (R6 to R9, R12) -/

/-- A quad is attached: one of its sites has an attached lane (R1). -/
def quadAttached (s : State) (q : Quad) : Bool :=
  (quadSites q).any fun i => (s.site i).attachedLane.isSome

/-- A quad is pending: one of its sites is POWER_PENDING (R1). -/
def quadPending (s : State) (q : Quad) : Bool :=
  (quadSites q).any fun i => (s.site i).state == .powerPending

/-- A SETTLING site's settle countdown is loaded in full (R10). -/
def reloadSettle (r : SiteRecord) : SiteRecord :=
  if r.state = .settling then { r with settle := .load r.settleTicks } else r

/-- Steps 1 and 2 of a quad switch event: the quad's quiet countdown restarts, and the settle countdown of
each of its SETTLING sites is loaded in full (R12). A site that the event switched on has just been loaded
with the same value (R7). -/
def disturbQuad (q : Quad) (s : State) : State :=
  (quadSites q).foldl (fun s i => s.modSite i reloadSettle) (s.setQuiet q (.load s.settings.quietWindow))

/-- A site's record at a switch-on (R7). -/
def switchedOn (r : SiteRecord) : SiteRecord :=
  { r with supply := true, state := .settling, settle := .load r.settleTicks }

/-- Switches sites of a quad on as one quad switch event of cause SWITCH_ON (R7, R12). The quad has no
attached site whenever this is done (R6, R8), so the announcement reaches no lane. -/
def switchOn (q : Quad) (sites : List Site) (s : State) : State :=
  disturbQuad q (sites.foldl (fun s i => s.modSite i switchedOn) s)

/-- Power-on claims of a quad that are decided together: in a quad with no attached site they are switched on at once,
as one event, else each site is POWER_PENDING (R6, R7). -/
def claimTogether (q : Quad) (sites : List Site) (s : State) : State :=
  if quadAttached s q then sites.foldl (fun s i => s.modSite i fun r => { r with state := .powerPending }) s
  else switchOn q sites s

/-- A power-on claim for one site (R6). -/
def claimPower (i : Site) (s : State) : State := claimTogether (quadOf i) [i] s

/-- The release of deferred switch-ons in a quad that has no attached site and is pending (R8). -/
def release (q : Quad) (s : State) : State :=
  if !quadAttached s q && quadPending s q then
    switchOn q ((quadSites q).filter fun i => (s.site i).state == .powerPending) s
  else s

/-- A site's record without its attachment (R9). -/
def unattached (r : SiteRecord) : SiteRecord := { r with attachedLane := none, attachedKind := none }

/-- A lane detaches its site, and the site's quad is released where R8 says (R9). -/
def detach (l : Lane) (s : State) : State :=
  match (s.lane l).run.site with
  | none => s
  | some i => release (quadOf i) (s.modSite i unattached)

/-- A lane clears its run state and enters a state (R83, R94 step 7, R98). -/
def leave (l : Lane) (dest : LaneState) (s : State) : State :=
  s.modLane l fun c => { c with run := .idle, state := dest }

/-! ### The end of a job on its lane (R94) -/

/-- What a lane hands at an end: the code, the frequency error, the figures with the spot list, the floors,
and, for a CHECK job that ends NORMAL, the new rating of its path (R95, R105, R106). -/
structure EndReport where
  code : TermCode
  freqError : Option Int
  figures : Figures
  spots : List SpotLevel
  floors : Floors
  newRating : Option Rating
  deriving DecidableEq, Repr

/-- An end without figures or floors. -/
def bareEnd (code : TermCode) (freq : Option Int) : EndReport := ⟨code, freq, .none, [], .none, none⟩

/-- The Path Table writes the entry of a completed check: floors, rating, tick and count (R166). -/
def writePath (i : Site) (l : Lane) (floors : Floors) (rating : Rating) (s : State) : State :=
  s.setPath i l
    { rating := rating, floors := floors, lastCheck := some s.now, checks := min 255 ((s.path i l).checks + 1) }

/-- Step 3 of an end: a CHECK job that ends NORMAL writes its path (R94, R166, R167). -/
def writeCheckedPath (j : Job) (e : EndReport) (s : State) : State :=
  match j.work, e.newRating with
  | .check l, some r => writePath j.site l e.floors r s
  | _, _ => s

/-- The ring content names a job. -/
def ringNames (c : LaneContext) (id : Nat) : Bool :=
  match c.ring with
  | none => false
  | some r => r.jobId == id

/-- The ring hold is to be set at a terminal end: a MEASURE job whose plan has KEEP_SAMPLES, with samples of
the run in the ring, on a lane that does not enter DISABLED (R97). -/
def holdsRing (s : State) (l : Lane) (j : Job) (dest : LaneState) : Bool :=
  jobKeeps s j.work && ringNames (s.lane l) j.id && dest != .disabled

/-- Step 5 of an end: the ring hold (R97, R150). -/
def setHold (l : Lane) (j : Job) (dest : LaneState) (s : State) : State :=
  if holdsRing s l j dest then
    s.modLane l fun c => { c with hold := true, holdLeft := .load s.settings.holdLimit }
  else s

/-- A listed job ends on a lane, which then enters `dest`: steps 2 to 7 of R94, in their order. -/
def endJob (l : Lane) (j : Job) (e : EndReport) (dest : LaneState) (s : State) : State :=
  let d : Deposit :=
    { code := e.code, laneUsed := some l, start := (s.lane l).run.start, freqError := e.freqError,
      figures := e.figures, spots := e.spots, floors := e.floors, pathUpdated := e.newRating.isSome }
  leave l dest (detach l (setHold l j dest (deposit j d (writeCheckedPath j e (removeJob j.id s)))))

/-- The listed job that a lane runs. -/
def laneJob (s : State) (l : Lane) : Option Job := (s.lane l).run.jobId.bind s.findJob

/-- A lane ends its job (R94). A lane in a measuring state has its job listed (R61, R84); where it has none
it only detaches and leaves (log 20). -/
def laneEnd (l : Lane) (e : EndReport) (dest : LaneState) (s : State) : State :=
  match laneJob s l with
  | none => leave l dest (detach l s)
  | some j => endJob l j e dest s

/-! ### Giving a job back (R73, R96) -/

/-- The code with which the Job Controller ends a job that a lane gives back, if it does (R73 tests 1 to
3). A lane that reports because it is being disabled counts as DISABLED. -/
def giveBackEnd (s : State) (l : Lane) (j : Job) (cause : RequeueCause) (dest : LaneState) : Option TermCode :=
  if cause = .disturbed ∧ j.retries = jobRetryLimit s j.work then some .disturbed
  else
    match j.work with
    | .measure _ =>
      match (s.site j.site).state with
      | .vacant | .fault | .disabled => some .siteGone
      | _ => none
    | .check t =>
      if (s.lane t).state = .disabled ∨ (t = l ∧ dest = .disabled) then some .noPath else none

/-- The entry of a requeued job: QUEUED, with its retries or its preemptions raised (R73). -/
def requeued (cause : RequeueCause) (j : Job) : Job :=
  match cause with
  | .disturbed => { j with running := none, retries := j.retries + 1 }
  | .preempted | .refLost => { j with running := none, preemptions := min 255 (j.preemptions + 1) }

/-- A requeued job's entry moves to the head of the list (R61, R73). -/
def requeueEntry (cause : RequeueCause) (j : Job) (s : State) : State :=
  s.setJobs (requeued cause j :: s.jobs.eraseP fun x => x.id == j.id)

/-- A lane gives its job back for a cause and enters `dest`: the job is requeued, or ends with the code the
Job Controller hands (R96). -/
def giveBack (l : Lane) (cause : RequeueCause) (dest : LaneState) (s : State) : State :=
  match laneJob s l with
  | none => leave l dest (detach l s)
  | some j =>
    match giveBackEnd s l j cause dest with
    | some code => endJob l j (bareEnd code (s.lane l).run.coarse) dest s
    | none => leave l dest (detach l (requeueEntry cause j s))

/-! ### Quad switch events at the attached lanes (R12, R99) -/

/-- The end code of an own-site switch-off (R99). -/
def ownSiteCode : SwitchCause → Option TermCode
  | .powerOff => some .powerRemoved
  | .contactFall => some .contactLost
  | .faultTrip => some .supplyFault
  | .switchOn | .restartOff => none

/-- A lane in ATTACHING to CAPTURING takes a quad switch event that names the sites `named`: on the own-site
row a MEASURE job ends; on the row for other sites the job is given back DISTURBED (R99). -/
def takeSwitchEvent (named : List Site) (cause : SwitchCause) (l : Lane) (i : Site) (s : State) : State :=
  let c := s.lane l
  if !isMeasuring c.state || c.state == .reducing then s
  else if named.contains i then
    match c.run.kind, ownSiteCode cause with
    | some .measure, some code => laneEnd l (bareEnd code c.run.coarse) .idle s
    | _, _ => s
  else if cause = .restartOff then s
  else giveBack l .disturbed .idle s

/-- Step 3 of a quad switch event at one lane, if it is attached to a site of the quad (R12). -/
def announceSwitch (q : Quad) (named : List Site) (cause : SwitchCause) (s : State) (l : Lane) : State :=
  match (s.lane l).run.site with
  | none => s
  | some i => if quadOf i = q then takeSwitchEvent named cause l i s else s

/-- A quad switch event (R12): quiet and settle, then the attached lanes in the order of log 7. -/
def quadEvent (q : Quad) (named : List Site) (cause : SwitchCause) (s : State) : State :=
  (lanesInOrder s.laneOrder).foldl (announceSwitch q named cause) (disturbQuad q s)

/-- A site's record at a switch-off into a state (R2, R5, R10, R13, R19). -/
def switchedOff (dest : SiteState) (r : SiteRecord) : SiteRecord :=
  { r with supply := false, state := dest, settle := .idle, tripDue := false }

/-- Switches a powered site off into a state, as a quad switch event of a cause. -/
def switchOff (i : Site) (dest : SiteState) (cause : SwitchCause) (s : State) : State :=
  quadEvent (quadOf i) [i] cause (s.modSite i (switchedOff dest))

end Sys2Proof.Machine
end

