-- ==== Sys2Proof/Machine/Calibration.lean ====
section
/-!
DEFINITION. Lane calibration (R32 to R39) and the Reference Monitor's check intervals (R26, R27, R37).
-/
namespace Sys2Proof.Machine

/-! ### Starting and completing a calibration (R35, R36) -/

/-- A calibration starts: CALIBRATING with 25 ticks to go (R35). -/
def startCalibration (l : Lane) (s : State) : State :=
  s.modLane l fun c => { c with state := .calibrating, calLeft := .load Config.calTicks }

/-- A calibration passes: the gain code lies in 16 to 1,007 and the residual spread is at most 500 fs rms
(R36). -/
def calibrationPasses (gain : Nat) (spread : Rat) : Bool :=
  16 ≤ gain && gain ≤ 1007 && spread ≤ (Config.calMaxSpread : Nat)

/-- A lane's context after a passed calibration (R36). -/
def passed (calPeriod gain : Nat) (c : LaneContext) : LaneContext :=
  { c with calFails := 0, owed := 0, calCounter := .load calPeriod, gain := some gain, state := .idle,
           calLeft := .idle }

/-- A calibration in progress completes with a gain code and a residual spread (R36). -/
def calibrationComplete (l : Lane) (gain : Nat) (spread : Rat) (s : State) : State :=
  let c := s.lane l
  if c.state = .calibrating ∧ c.calLeft.due then
    let pass := calibrationPasses gain spread
    let s1 := s.modLane l fun c => { c with lastCal := some ⟨s.now, pass, gain⟩ }
    if pass then s1.modLane l (passed s.settings.calPeriod gain)
    else if c.calFails = 0 then startCalibration l (s1.modLane l fun c => { c with calFails := 1 })
    else
      raiseLaneFaulted l (s1.modLane l fun c => { c with calFails := 2, state := .faulted, calLeft := .idle })
  else s

/-! ### The cal counter (R32, R34) -/

/-- The expiry of a lane's cal counter: the due count rises, the counter is reloaded, and at 3 an urgent
calibration starts, taking its time from a job in flight (R32, R34). -/
def calCounterExpiry (l : Lane) (s : State) : State :=
  let c := s.lane l
  if counterRuns c.state && c.calCounter.due then
    let s1 := s.modLane l fun c => { c with owed := min 3 (c.owed + 1), calCounter := .load s.settings.calPeriod }
    if 3 ≤ c.owed + 1 then
      startCalibration l (if isMeasuring c.state then giveBack l .preempted .calibrating s1 else s1)
    else s1
  else s

/-! ### The reference at the lanes (R37) -/

/-- A loss of reference at one lane (R37). -/
def loseReference (s : State) (l : Lane) : State :=
  match (s.lane l).state with
  | .disabled | .faulted | .uncalibrated => s
  | .idle => s.modLane l fun c => { c with state := .uncalibrated }
  | .calibrating => s.modLane l fun c => { c with state := .uncalibrated, calLeft := .idle }
  | .attaching | .acquiring | .discarding | .capturing | .reducing => giveBack l .refLost .uncalibrated s

/-- The entry into LOCKED at one lane (R37). -/
def gainReference (s : State) (l : Lane) : State :=
  if (s.lane l).state = .uncalibrated then startCalibration l s else s

/-! ### Check intervals (R26, R27) -/

/-- A count of REFIN edges lies in the coarse window (R25). -/
def inCoarseWindow (edges : Nat) : Bool := Config.coarseLow ≤ edges && edges ≤ Config.coarseHigh

/-- The monitor's state and progress after a check interval in ABSENT or QUALIFYING (R26). -/
def qualify (edges : Nat) (r : Reference) : Reference :=
  if edges = 0 then { r with state := .absent, progress := 0 }
  else if !inCoarseWindow edges then { r with state := .qualifying, progress := 0 }
  else
    let p := (if r.state = .absent then 0 else r.progress) + 1
    if Config.qualifyIntervals ≤ p then { r with state := .locked, progress := Config.qualifyIntervals, source := .refin }
    else { r with state := .qualifying, progress := p }

/-- The end of a check interval: the count is recorded, saturating (R25), and judged by R26 or R27. The entry
into LOCKED and the loss raise REFERENCE, change the tick source and reach every lane (R28, R37). -/
def checkIntervalEnd (edges : Nat) (s : State) : State :=
  let s1 := s.modRef fun r => { r with lastCheck := min 65535 edges }
  if s.ref.state = .locked then
    if inCoarseWindow edges then s1
    else
      (lanesInOrder s.laneOrder).foldl loseReference
        (raiseAlert .reference (s1.modRef fun r => { r with state := .absent, progress := 0, source := .backup }))
  else
    let s2 := s1.modRef (qualify edges)
    if s2.ref.state = .locked then
      (lanesInOrder s.laneOrder).foldl gainReference (raiseAlert .reference s2)
    else s2

end Sys2Proof.Machine
end

