-- ==== Sys2Proof/Machine/Arbiter.lean ====
section
/-!
DEFINITION. Eligibility and the lane arbiter (R67 to R71), and quiet-time calibration, which follows from the
arbiter's having nothing to offer (R33).
-/
namespace Sys2Proof.Machine

/-! ### Eligibility (R67, R68) -/

/-- The site state that a kind of job starts on (R2, R67). -/
def startState (k : JobKind) (x : SiteState) : Bool :=
  match k, x with
  | .measure, .ready => true
  | .check, .vacant | .check, .seated | .check, .disabled => true
  | _, _ => false

/-- A site is eligible for a start of a kind (R67). -/
def siteEligible (s : State) (k : JobKind) (i : Site) : Bool :=
  startState k (s.site i).state && (s.site i).attachedLane.isNone && (s.quietOf (quadOf i)).left == 0
    && !quadPending s (quadOf i)

/-- A lane is free: IDLE with no ring hold (R68). -/
def laneFree (c : LaneContext) : Bool := c.state == .idle && !c.hold

/-- A free lane is eligible for a job (R68). -/
def laneEligible (s : State) (j : Job) (l : Lane) : Bool :=
  let c := s.lane l
  laneFree c && !s.jc.paused && s.ref.state == .locked
    && (match j.work with
        | .measure _ => pathUsable s j.site l
        | .check t => t == l)
    && (c.owed != 2 || jobBudget s j.work < c.calCounter.left)

/-- A QUEUED job with an eligible site may start on a lane. -/
def mayStart (s : State) (j : Job) (l : Lane) : Bool :=
  j.queued && siteEligible s j.work.kind j.site && laneEligible s j l

/-! ### Choosing (R70) -/

/-- The rank of a lane's path: a present TIE floor before an absent one, then the lower floor. -/
def pathRank (e : PathEntry) : Nat × Nat :=
  match e.floors.tie with
  | some f => (0, f)
  | none => (1, 0)

/-- One rank is lower than another. -/
def rankBelow (a b : Nat × Nat) : Bool := a.1 < b.1 || (a.1 == b.1 && a.2 < b.2)

/-- The better of two lanes for a site: of the lower rank, the earlier between equals. -/
def betterLane (s : State) (i : Site) (best : Option Lane) (l : Lane) : Option Lane :=
  match best with
  | none => some l
  | some b => if rankBelow (pathRank (s.path i l)) (pathRank (s.path i b)) then some l else some b

/-- The lane for a job: among those it may start on, that of the lowest TIE floor (R70 step 2). -/
def bestLane (s : State) (j : Job) : Option Lane :=
  (allLanes.filter (mayStart s j)).foldl (betterLane s j.site) none

/-- The pair the arbiter makes next: the earliest job that has a lane, with its lane (R70). -/
def nextPair (s : State) : Option (Job × Lane) :=
  s.jobs.findSome? fun j => (bestLane s j).map fun l => (j, l)

/-! ### Pairing (R71) -/

/-- The run state that a pairing loads (R71, R83, R85, R93). -/
def runOf (j : Job) (budget : Nat) (now : Tick) : RunState where
  site := some j.site
  jobId := some j.id
  kind := some j.work.kind
  start := some now
  budget := .load budget
  attach := .load Config.attachTicks
  attachEnd := none
  signalSeen := false
  tracker := ⟨none, 0⟩
  coarse := none
  discard := 0
  capture := .idle
  reduce := .idle

/-- The lane's context at a pairing: the run begins, the latch is emptied, the ring content and the capture
memory are invalidated, and the accumulators are emptied (R71, R91, R110, R144, R146). -/
def pairedLane (j : Job) (budget : Nat) (now : Tick) (c : LaneContext) : LaneContext :=
  { c with state := .attaching, run := runOf j budget now, captured := 0, acc := none, ring := none,
           memory := [], latch := none }

/-- The entry of a job at its pairing (R71). -/
def pairedJob (l : Lane) (now : Tick) (j : Job) : Job := { j with running := some l, lastRun := some ⟨l, now⟩ }

/-- The follow context of a lane gets its stale mark (R158). -/
def staleFollow (l : Lane) (f : Follow) : Follow := if f.lane = l then { f with stale := true } else f

/-- A pairing of a job with a lane: the job, the site and the lane in one change (R71). -/
def pair (j : Job) (l : Lane) (s : State) : State :=
  let s1 := s.setJobs (s.jobs.map fun x => if x.id = j.id then pairedJob l s.now x else x)
  let s2 := s1.modSite j.site fun r => { r with attachedLane := some l, attachedKind := some j.work.kind }
  (s2.modLane l (pairedLane j (jobBudget s j.work) s.now)).modLink fun k =>
    { k with follow := k.follow.map (staleFollow l) }

/-- The arbiter makes one pair, if the pairing condition holds (R69, R70). -/
def lanePairing (s : State) : State :=
  match nextPair s with
  | none => s
  | some (j, l) => pair j l s

/-! ### Quiet-time calibration (R33) -/

/-- The arbiter has nothing to offer a lane (R33). -/
def nothingToOffer (s : State) (l : Lane) : Bool := !s.jobs.any fun j => mayStart s j l

/-- An IDLE lane that owes a calibration and is offered nothing starts one (R33, R35). -/
def quietTimeCalibration (l : Lane) (s : State) : State :=
  let c := s.lane l
  if c.state = .idle ∧ 1 ≤ c.owed ∧ nothingToOffer s l then startCalibration l s else s

end Sys2Proof.Machine
end

