-- ==== Sys2Proof/Machine/Tracker.lean ====
section
/-!
DEFINITION. The edges on a lane's path and the edge tracker (R86 to R89): the edges of the chosen polarity, their
number and times, the periods within tolerance, and lock.
-/
namespace Sys2Proof.Machine

/-! ### The edges of the chosen polarity (R44, R86) -/

/-- The runs of the polarity that a run of a job counts, timestamps and samples; a run of no edge is left out. -/
def chosenEdges (p : RunParams) (edges : List EdgeRun) : List EdgeRun :=
  edges.filter fun r => r.falling == p.falling && 0 < r.count

/-- The number of edges. -/
def edgeCount (runs : List EdgeRun) : Nat := (runs.map (·.count)).sum

/-- The time from the first edge to the last; 0 for no edge. -/
def edgeSpan (runs : List EdgeRun) : Rat :=
  match runs.head?, runs.getLast? with
  | some a, some b => lastEdge b - a.first
  | _, _ => 0

/-- The first `n` edges, as runs. -/
def firstEdges : Nat → List EdgeRun → List EdgeRun
  | 0, _ | _, [] => []
  | n, r :: rest => if n ≤ r.count then [{ r with count := n }] else r :: firstEdges (n - r.count) rest

/-- The times of the first `n` edges. -/
def edgeTimes (n : Nat) (runs : List EdgeRun) : List Rat :=
  (runs.flatMap fun r => (List.range (min n r.count)).map fun k : Nat => r.first + (k : Rat) * r.period).take n

/-! ### Tolerance and lock (R88) -/

/-- The period that the first edge of a run ends lies within tolerance; without an edge before it there is none. -/
def joinsWell (nominal : Nat) (last : Option Rat) (r : EdgeRun) : Bool :=
  last.all fun e => inTolerance nominal (r.first - e)

/-- The periods between the edges of a run lie within tolerance. -/
def runsWell (nominal : Nat) (r : EdgeRun) : Bool := r.count < 2 || inTolerance nominal r.period

/-- Every period of a stretch of edges that follows an edge, if there is one, lies within tolerance. -/
def unbroken (nominal : Nat) : Option Rat → List EdgeRun → Bool
  | _, [] => true
  | last, r :: rest => joinsWell nominal last r && runsWell nominal r && unbroken nominal (some (lastEdge r)) rest

/-- The tracker takes in a run: each period within tolerance counts, and one that is not starts the count anew. -/
def trackRun (nominal : Nat) (t : Tracker) (r : EdgeRun) : Tracker :=
  let joined := if t.last.isSome && joinsWell nominal t.last r then t.good + 1 else 0
  { last := some (lastEdge r)
    good := if runsWell nominal r then min Config.lockPeriods (joined + (r.count - 1)) else 0 }

/-- The tracker takes in a stretch of edges of the chosen polarity. -/
def track (p : RunParams) (edges : List EdgeRun) (t : Tracker) : Tracker :=
  (chosenEdges p edges).foldl (trackRun p.nominal) t

/-- At a time, the next edge has not come by 9/8 of the nominal period after an edge. -/
def overdue (nominal : Nat) (last time : Rat) : Bool := 9 * nominalPeriod nominal < 8 * (time - last)

/-- The tracker holds lock at a time: the latest 1,024 consecutive periods each lie within tolerance, and the next
edge is not overdue. -/
def holdsLock (nominal : Nat) (t : Tracker) (time : Rat) : Bool :=
  Config.lockPeriods ≤ t.good && t.last.any fun e => !overdue nominal e time

/-- A stretch of edges up to a time has a period out of tolerance, or one that no edge has ended in time. -/
def losesLock (p : RunParams) (edges : List EdgeRun) (time : Rat) : Bool :=
  let runs := chosenEdges p edges
  !unbroken p.nominal none runs || runs.getLast?.any fun r => overdue p.nominal (lastEdge r) time

end Sys2Proof.Machine
end

