-- ==== Sys2Proof/Machine/Measurement.lean ====
section
/-!
DEFINITION. The steps of a job on its lane (R85 to R93, R105, R106): attach, acquisition, discard, capture,
reduction, budget, and the expiry of a ring hold (R151).
-/
namespace Sys2Proof.Machine

/-! ### The parameters of a run -/

/-- The fixed parameters of a path check, its edge RISING (R105, R163). -/
def checkParams : RunParams :=
  ⟨Config.toneNominal, Config.toneStride, Config.toneWindow, 1, Config.captureMax, false⟩

/-- The parameters of a job's run: its plan's, or those of a path check. -/
def paramsOf (s : State) : Work → Option RunParams
  | .measure p => (s.plan p).map fun x => ⟨x.nominal, x.stride, x.window, x.discard, x.sampleCount, x.falling⟩
  | .check _ => some checkParams

/-- The job a lane runs with the parameters of its run. -/
def laneRun (s : State) (l : Lane) : Option (Job × RunParams) :=
  (laneJob s l).bind fun j => (paramsOf s j.work).map fun p => (j, p)

/-- The ticks since a lane's attach end tick (R83). -/
def acquireAge (s : State) (l : Lane) : Nat :=
  match (s.lane l).run.attachEnd with
  | none => 0
  | some e => ticksSince e s.now

/-! ### Ends in acquisition (R86 to R89, R106) -/

/-- An acquisition finding ends a MEASURE job with its code; a CHECK job ends NORMAL with the rating BAD and no
floors (R94, R106). -/
def acquisitionEnd (l : Lane) (code : TermCode) (s : State) : State :=
  let freq := (s.lane l).run.coarse
  match (s.lane l).run.kind with
  | some .check => laneEnd l ⟨.normal, freq, .none, [], .none, some .bad⟩ .idle s
  | _ => laneEnd l (bareEnd code freq) .idle s

/-! ### Attach and acquisition (R85 to R88) -/

/-- Attach remaining reaches 0: ACQUIRING, from this tick (R85). -/
def attachEnd (l : Lane) (s : State) : State :=
  let c := s.lane l
  if c.state = .attaching ∧ c.run.attach.due then
    s.modLane l fun c =>
      { c with state := .acquiring, run := { c.run with attach := .idle, attachEnd := some s.now } }
  else s

/-- The edge tracker of a lane takes in the edges of the chosen polarity (R86, R88). -/
def takeEdges (l : Lane) (p : RunParams) (edges : List EdgeRun) (s : State) : State :=
  s.modLane l fun c => { c with run := { c.run with tracker := track p edges c.run.tracker } }

/-- The end of the no-signal window at e + 2: NO_SIGNAL without an edge of the chosen polarity (R86). -/
def noSignalWindowEnd (l : Lane) (edges : List EdgeRun) (s : State) : State :=
  let c := s.lane l
  if c.state = .acquiring ∧ !c.run.signalSeen ∧ Config.noSignalTicks ≤ acquireAge s l then
    match laneRun s l with
    | none => s
    | some (_, p) =>
      if edgeCount (chosenEdges p edges) = 0 then acquisitionEnd l .noSignal s
      else
        (takeEdges l p edges s).modLane l fun c => { c with run := { c.run with signalSeen := true } }
  else s

/-- Lock is found: DISCARDING with the discard of the run loaded (R88, R105). -/
def enterDiscarding (l : Lane) (p : RunParams) (s : State) : State :=
  s.modLane l fun c =>
    { c with state := .discarding, run := { c.run with discard := p.discard * Config.discardUnit } }

/-- A lock test at the time of its tick: with lock held the lane enters DISCARDING, else `without` follows (R88). -/
def lockTest (l : Lane) (p : RunParams) (time : Rat) (without : State → State) (s : State) : State :=
  if holdsLock p.nominal (s.lane l).run.tracker time then enterDiscarding l p s else without s

/-- The coarse error is beyond the frequency window (R87). -/
def beyondWindow (p : RunParams) (error : Int) : Bool := ((p.window * 1000 : Nat) : Int) < error.natAbs

/-- The coarse frequency check at e + 4 on the edges of the chosen polarity (R87), with the lock test of the same
tick (R88). A frequency from edges of no time span is a free value (log 17). -/
def coarseFrequencyCheck (l : Lane) (edges : List EdgeRun) (time : Rat) (s : State) : State :=
  let c := s.lane l
  if c.state = .acquiring ∧ c.run.signalSeen ∧ c.run.coarse = none ∧ Config.coarseTicks ≤ acquireAge s l then
    match laneRun s l with
    | none => s
    | some (_, p) =>
      let chosen := chosenEdges p edges
      if edgeCount chosen < 2 then acquisitionEnd l .noSignal s
      else
        let error := roundPpb
          ((coarseError? p.nominal (edgeCount chosen) (edgeSpan chosen)).getD (Config.freeRat s.free))
        let s1 := (takeEdges l p edges s.draw).modLane l fun c =>
          { c with run := { c.run with coarse := some error } }
        if beyondWindow p error then acquisitionEnd l .offFrequency s1 else lockTest l p time id s1
  else s

/-- A lock test at a tick after e + 4 and up to e + 40: DISCARDING if lock is held, else the lane waits on (R88). -/
def lockAcquired (l : Lane) (edges : List EdgeRun) (time : Rat) (s : State) : State :=
  let c := s.lane l
  if c.state = .acquiring ∧ c.run.coarse.isSome ∧ acquireAge s l ≤ Config.lockTicks then
    match laneRun s l with
    | none => s
    | some (_, p) => lockTest l p time id (takeEdges l p edges s)
  else s

/-- The lane acquires past its coarse check, and tick e + 40 has come. -/
def lockWindowOver (s : State) (l : Lane) : Bool :=
  (s.lane l).state == .acquiring && (s.lane l).run.coarse.isSome && Config.lockTicks ≤ acquireAge s l

/-- The lock test of tick e + 40: without lock the job ends NO_LOCK (R88). -/
def lockWindowEnd (l : Lane) (edges : List EdgeRun) (time : Rat) (s : State) : State :=
  if lockWindowOver s l then
    match laneRun s l with
    | none => s
    | some (_, p) => lockTest l p time (acquisitionEnd l .noLock) (takeEdges l p edges s)
  else s

/-- The lock window is past and none of its tests found lock: the job ends NO_LOCK (R88; log 29). -/
def lockWindowLapse (l : Lane) (s : State) : State :=
  if lockWindowOver s l then acquisitionEnd l .noLock s else s

/-- A period out of tolerance in DISCARDING or CAPTURING: the job ends NO_LOCK (R89). Edges without one are no loss
of lock, and change nothing (log 3). -/
def lossOfLock (l : Lane) (edges : List EdgeRun) (time : Rat) (s : State) : State :=
  let c := s.lane l
  if c.state = .discarding ∨ c.state = .capturing then
    match laneRun s l with
    | none => s
    | some (_, p) => if losesLock p edges time then acquisitionEnd l .noLock s else s
  else s

/-! ### Discard and capture (R89 to R91, R105) -/

/-- The last edge of the discard has come: CAPTURING; a CHECK job's capture remaining is loaded (R89, R105). -/
def enterCapturing (c : LaneContext) : LaneContext :=
  { c with
    state := .capturing
    run := { c.run with
      discard := 0
      capture := if c.run.kind = some .check then .load Config.checkCaptureTicks else .idle } }

/-- Edges in DISCARDING: discard remaining falls by 1 at each of the chosen polarity, and at the one that brings it
to 0 the lane enters CAPTURING; a period out of tolerance up to there ends the job NO_LOCK (R89, R105). Edges after
that one belong to the capture. -/
def discardComplete (l : Lane) (edges : List EdgeRun) (s : State) : State :=
  let c := s.lane l
  if c.state = .discarding then
    match laneRun s l with
    | none => s
    | some (_, p) =>
      let passing := firstEdges c.run.discard (chosenEdges p edges)
      if !unbroken p.nominal c.run.tracker.last passing then acquisitionEnd l .noLock s
      else
        let left := c.run.discard - edgeCount passing
        let s1 := (takeEdges l p passing s).modLane l fun c => { c with run := { c.run with discard := left } }
        if left = 0 then s1.modLane l enterCapturing else s1
  else s

/-- The reduction duration: 1 tick for each started 4,096 samples, and 1 with PHASE (R92, R105). -/
def reductionTicks (s : State) (j : Job) (n : Nat) : Nat :=
  (n + 4095) / 4096 + (match j.work with
    | .measure p => if ((s.plan p).map Plan.hasPhase).getD false then 1 else 0
    | .check _ => 1)

/-- The capture ends with n samples: REDUCING (R90, R92, R105). -/
def enterReducing (l : Lane) (ticks : Nat) (s : State) : State :=
  s.modLane l fun c =>
    { c with state := .reducing, run := { c.run with capture := .idle, reduce := .load ticks } }

/-- A lane takes in a completed sample: counted, accumulated, written to the ring and to the capture memory
(R90, R91, R110, R144). The edges of the next one are counted from this one's edge. -/
def takeSample (p : RunParams) (jobId : Nat) (x : Sample) (c : LaneContext) : LaneContext :=
  let origin := ((c.memory.head?).map (·.stamp)).getD x.stamp
  let r := rawForm p (c.run.coarse.getD 0) origin c.captured x
  { c with
    run := { c.run with tracker := { c.run.tracker with last := some x.stamp } }
    captured := c.captured + 1
    acc := some (accumulate r c.acc)
    ring := some (ringWrite jobId c.captured r c.ring)
    memory := c.memory ++ [x] }

/-- Which edge of the chosen polarity is the next sample's: the first after the discard, then the stride-th after the
edge of the sample before (R90). -/
def sampleEdge (p : RunParams) (captured : Nat) : Nat := if captured = 0 then 1 else p.stride

/-- A sample completes (R90), from the edges that follow the edge of the sample before, or the end of the discard: it is
timestamped at its edge, and its two periods end at the two edges that follow (R109); with fewer edges it is not
complete. A period out of tolerance up to there ends the job NO_LOCK before it completes (R89, R111). The last sample
ends the capture (R90, R105). -/
def sampleComplete (l : Lane) (edges : List EdgeRun) (s : State) : State :=
  let c := s.lane l
  if c.state = .capturing then
    match laneRun s l with
    | none => s
    | some (j, p) =>
      let k := sampleEdge p c.captured
      let upTo := firstEdges (k + 2) (chosenEdges p edges)
      if !unbroken p.nominal c.run.tracker.last upTo then acquisitionEnd l .noLock s
      else
        match (edgeTimes (k + 2) upTo).drop (k - 1) with
        | [stamp, second, third] =>
          let s1 := s.modLane l (takeSample p j.id ⟨stamp, second - stamp, third - second⟩)
          if p.samples ≤ c.captured + 1 then enterReducing l (reductionTicks s j (c.captured + 1)) s1
          else s1
        | _ => s
  else s

/-- A CHECK job's capture remaining reaches 0 (R105). -/
def checkCaptureEnd (l : Lane) (s : State) : State :=
  let c := s.lane l
  if c.state = .capturing ∧ c.run.capture.due then
    match laneJob s l with
    | none => s
    | some j => enterReducing l (reductionTicks s j c.captured) s
  else s

/-! ### Reduction (R92, R105, R165) -/

/-- The rating of a check by its TIE floor and the thresholds in the table (R165). -/
def rate (x : Settings) (tie : Option Nat) : Rating :=
  match tie with
  | none => .bad
  | some f => if f ≤ x.floorGood then .good else if f ≤ x.floorMarginal then .marginal else .bad

/-- The end report of a completed reduction (R95, R105, R123, R164). -/
def reductionReport (s : State) (l : Lane) (j : Job) (p : RunParams) : EndReport :=
  let memory := (s.lane l).memory
  let free := fun k => Config.freeRat (s.free + k)
  match j.work with
  | .check _ =>
    let r := reduceCheck p memory free
    ⟨.normal, some r.1, .none, [], r.2, some (rate s.settings r.2.tie)⟩
  | .measure x =>
    match s.plan x with
    | none => bareEnd .normal none
    | some plan =>
      let r := reduceMeasure p plan (s.path j.site l) memory free
      ⟨.normal, some r.freq, r.figures, r.spots, .none, none⟩

/-- Counts the free values that a reduction may have drawn (log 17). -/
def drawReduction (s : State) : State := { s with free := s.free + reductionDraws }

/-- Reduce remaining reaches 0: the figures are formed and the job ends NORMAL (R92). -/
def reductionEnd (l : Lane) (s : State) : State :=
  let c := s.lane l
  if c.state = .reducing ∧ c.run.reduce.due then
    match laneRun s l with
    | none => s
    | some (j, p) => drawReduction (laneEnd l (reductionReport s l j p) .idle s)
  else s

/-! ### Budget and hold (R93, R151) -/

/-- Budget remaining reaches 0: TIMEOUT in ATTACHING to CAPTURING; ignored in REDUCING (R93). -/
def budgetExpiry (l : Lane) (s : State) : State :=
  let c := s.lane l
  if isMeasuring c.state && c.run.budget.due then
    if c.state = .reducing then s.modLane l fun c => { c with run := { c.run with budget := .idle } }
    else laneEnd l (bareEnd .timeout c.run.coarse) .idle s
  else s

/-- A ring hold ends: the flag is cleared and hold remaining is 0; the ring content is kept (R151, R152). -/
def endHold (c : LaneContext) : LaneContext := { c with hold := false, holdLeft := .idle }

/-- Hold remaining reaches 0: the hold ends and HOLD_EXPIRED is raised for the lane (R151). -/
def holdExpiry (l : Lane) (s : State) : State :=
  let c := s.lane l
  if c.hold && c.holdLeft.due then raiseHoldExpired l (s.modLane l endHold) else s

end Sys2Proof.Machine
end

