-- ==== Sys2Proof/Machine/Replies.lean ====
section
/-!
DEFINITION. What a request's owner answers: a status and the reply's data, with the byte forms of the
records that replies carry (R180, R192, R195 to R198) and the frames of a reply or a NAK (R177, R191, R198).
-/
namespace Sys2Proof.Machine

/-- The answer of a request's owner. -/
structure Response where
  status : Status
  data : ReplyData
  deriving DecidableEq, Repr

/-- OK with data in one frame. -/
def okWith (data : List Byte) : Response := ⟨.ok, .single data⟩

/-- OK with the data of a run of segments (R198). -/
def okSegments (data : List (List Byte)) : Response := ⟨.ok, .segments data⟩

/-- A refusal, which changes nothing and carries no data (R180). -/
def refuse (x : Status) : Response := ⟨x, .single []⟩

/-! ### The byte forms of records -/

/-- A tick count. -/
def beTick (t : Tick) : List Byte := be32 t.toNat

/-- A site number. -/
def beSite (i : Site) : List Byte := be8 i.val

/-- A lane number. -/
def beLane (l : Lane) : List Byte := be8 l.val

/-- The plan of a MEASURE job, or the target lane of a CHECK job. -/
def beWork : Work → List Byte
  | .measure p => be8 p.val
  | .check l => be8 l.val

/-- A site summary (R21, R198). -/
def siteSummary (r : SiteRecord) : List Byte :=
  be8 r.state.code ++ beBool r.contact ++ beBool r.supply ++ beBool r.autopower ++ be16 r.settleTicks
    ++ be16 r.settle.left ++ beOpt beLane r.attachedLane ++ beOpt (fun k : JobKind => be8 k.code) r.attachedKind
    ++ beOpt be8 r.lastBin ++ beOpt be8 r.lastJobId ++ be16 r.completed ++ be8 r.faults

/-- A quad summary (R21, R198). -/
def quadSummary (s : State) (q : Quad) : List Byte :=
  be16 (s.quietOf q).left ++ beBool (quadPending s q)

/-- The record of a completed calibration (R40). -/
def calRecordBytes (c : CalRecord) : List Byte :=
  beTick c.tick ++ be8 (if c.pass then 0 else 1) ++ be16 c.gain

/-- The ring content record (R40, R91). -/
def ringBytes (r : RingContent) : List Byte := be8 r.jobId ++ be16 r.first ++ be16 r.samples.length

/-- A lane's summary, its fields in the order of R40 (log 13). -/
def laneSummary (c : LaneContext) : List Byte :=
  be8 c.state.code ++ beBool (c.owed == 2) ++ be16 c.calCounter.left ++ be8 c.owed ++ be8 c.calLeft.left
    ++ be8 c.calFails ++ beOpt calRecordBytes c.lastCal ++ beOpt beSite c.run.site ++ beOpt be8 c.run.jobId
    ++ be16 c.run.budget.left ++ beOpt ringBytes c.ring ++ beBool c.hold ++ be16 c.holdLeft.left
    ++ beBool c.latch.isSome

/-- A queue entry (R80, R198). -/
def jobBytes (j : Job) : List Byte :=
  be8 j.id ++ be8 j.work.kind.code ++ beSite j.site ++ beWork j.work ++ beOpt be8 j.batch
    ++ be8 (if j.queued then 0 else 1) ++ beOpt beLane j.running ++ be8 j.handle.val ++ be8 j.retries
    ++ be8 j.preemptions ++ beTick j.enqueued
    ++ beOpt (fun r : LastRun => beLane r.lane ++ beTick r.tick) j.lastRun

/-- A path entry (R171, R198). -/
def pathBytes (i : Site) (l : Lane) (e : PathEntry) : List Byte :=
  beSite i ++ beLane l ++ be8 e.rating.code ++ beOpt be32 e.floors.tie ++ beOpt be32 e.floors.period
    ++ beOpt be32 e.floors.c2c ++ beOpt be32 e.floors.phase ++ beOpt beTick e.lastCheck ++ be8 e.checks

/-- A snapshot record (R197). -/
def snapshotBytes (r : SnapshotRecord) : List Byte :=
  beLane r.lane ++ beOpt be8 r.jobId ++ beOpt beSite r.site ++ beTick r.taken ++ be32 r.captured
    ++ beOpt beInt r.span ++ beOpt beInt r.meanDev ++ beOpt beInt r.periodRms ++ be8 r.flagCode

/-- A sample of a block (R197). -/
def sampleBytes (x : RawSample) : List Byte := beInt x.timeError ++ beInt x.firstDev ++ beInt x.secondDev

/-- A figure: value and flags (R196). -/
def figureBytes (f : Figure) : List Byte := beInt f.value ++ be8 f.flags.code

/-- An entry of a spot list (R196). -/
def spotBytes (x : SpotLevel) : List Byte :=
  be32 x.offset ++ beInt x.level ++ be8 (if x.saturated then 1 else 0)

/-- A verdict (R196). -/
def verdictBytes (v : Verdict) : List Byte := be8 v.bin ++ beOpt be8 v.deciding ++ be8 v.skipped

/-- The fields that a completion summary and a result record begin with (R196). -/
def recordHead (h : Handle) (r : ResultRecord) : List Byte :=
  be8 h.val ++ be8 r.jobId ++ be8 r.work.kind.code ++ beSite r.site ++ beWork r.work ++ beOpt be8 r.batch
    ++ be8 r.code.code ++ be8 (classOf r.code).code

/-- A completion summary (R138, R196). -/
def completionBytes (h : Handle) (r : ResultRecord) : List Byte :=
  recordHead h r
    ++ (match r.work with
        | .measure _ => beOpt (fun v : Verdict => be8 v.bin) r.verdict
        | .check _ => be8 r.rating.code ++ beBool r.pathUpdated)
    ++ beTick r.endTick

/-- A result record (R139, R196). -/
def resultBytes (h : Handle) (r : ResultRecord) : List Byte :=
  recordHead h r ++ beOpt beLane r.laneUsed ++ be8 r.retries ++ be8 r.preemptions ++ beOpt beTick r.start
    ++ beTick r.endTick ++ beOpt beInt r.freqError
    ++ (match r.work with
        | .measure _ =>
          beOpt figureBytes r.figures.periodRms ++ beOpt figureBytes r.figures.periodPp
            ++ beOpt figureBytes r.figures.c2cRms ++ beOpt figureBytes r.figures.c2cPp
            ++ beOpt figureBytes r.figures.tieRms ++ beOpt figureBytes r.figures.tiePp
            ++ beOpt figureBytes r.figures.phaseInt ++ beList spotBytes r.spots ++ beOpt verdictBytes r.verdict
        | .check _ =>
          beOpt be32 r.floors.tie ++ beOpt be32 r.floors.period ++ beOpt be32 r.floors.c2c
            ++ beOpt be32 r.floors.phase ++ be8 r.rating.code ++ beBool r.pathUpdated)

/-! ### Frames on TXD (R177, R181, R191, R198) -/

/-- The bodies of the segments of a run, each with its number and the count. -/
def segmentBodies (head : List Byte) (data : List (List Byte)) : List (List Byte) :=
  data.mapIdx fun k d => head ++ be8 k ++ be8 data.length ++ d

/-- The bodies of a reply's frames, in the order sent. -/
def Reply.bodies : Reply → List (List Byte)
  | .nak reason => [[0xFF, 0x00] ++ be8 reason.code]
  | .answer kind tag status (.single data) => [[kind, tag] ++ be8 status.code ++ data]
  | .answer kind tag status (.segments data) => segmentBodies ([kind, tag] ++ be8 status.code) data

/-- The bytes of TXD for the pending reply, back to back (R181); none where no reply is pending. -/
def txd (s : State) : List Byte :=
  match s.link.reply with
  | none => []
  | some r => r.bodies.flatMap frameOf

/-- Cuts a list into runs of a length. The first argument bounds the runs. -/
def chunks {α : Type} (size : Nat) : Nat → List α → List (List α)
  | 0, _ => []
  | _ + 1, [] => []
  | fuel + 1, x :: l => ((x :: l).take size) :: chunks size fuel ((x :: l).drop size)

end Sys2Proof.Machine
end

