-- ==== Sys2Proof/Machine/JobRequests.lean ====
section
/-!
DEFINITION. The requests that the Job Controller owns: MEASURE, SCREEN, CHECK PATHS (R63 to R66), CANCEL
(R77), PAUSE and RESUME (R79) and QUERY QUEUE (R80).
-/
namespace Sys2Proof.Machine

/-! ### Enqueue (R63 to R66) -/

/-- The site, and for a CHECK job the target lane, that an enqueue refusal names (R63). -/
def refusedPlace (n : NewJob) : List Byte :=
  match n.work with
  | .measure _ => beSite n.site
  | .check l => beSite n.site ++ beLane l

/-- Checks 2 to 6 of R63 on the jobs a request would create: the refusal, if any. -/
def enqueueCheck (s : State) (news : List NewJob) : Option Response :=
  match enqueueRefusal s news with
  | some (x, n) => some ⟨x, .single (refusedPlace n)⟩
  | none => if hasRoom s news.length then none else some (refuse .full)

/-- The jobs an accepted enqueue has just appended, in list order. -/
def appended (s s' : State) : List Job := s'.jobs.drop s.jobs.length

/-- MEASURE (R64). -/
def reqMeasure (site plan : Nat) (s : State) : Response × State :=
  match siteOf? site, planOf? plan with
  | some i, some p =>
    let news := [NewJob.mk (.measure p) i]
    match enqueueCheck s news with
    | some r => (r, s)
    | none =>
      let s1 := appendJobs none news s
      (okWith ((appended s s1).flatMap fun j => be8 j.id ++ be8 j.handle.val), s1)
  | _, _ => (refuse .badField, s)

/-- The last assigned batch id takes a value (R62). -/
def setBatch (b : Nat) (s : State) : State := s.modJc fun c => { c with lastBatchId := b }

/-- An enqueue of one batch: a new batch id and the jobs appended in order, answered with the batch id, the
number of jobs and an item for each job (R65, R66). -/
def enqueueBatch (item : Job → List Byte) (news : List NewJob) (s : State) : Response × State :=
  match enqueueCheck s news with
  | some r => (r, s)
  | none =>
    let b := nextBatchId s
    let s1 := appendJobs (some b) news (setBatch b s)
    (okWith (be8 b ++ be8 news.length ++ (appended s s1).flatMap item), s1)

/-- A job's item in the SCREEN reply (R65). -/
def screenItem (j : Job) : List Byte := beSite j.site ++ be8 j.id ++ be8 j.handle.val

/-- SCREEN (R65). -/
def reqScreen (sites : BitVec 16) (plan : Nat) (s : State) : Response × State :=
  match planOf? plan with
  | none => (refuse .badField, s)
  | some p =>
    if sites = 0 then (refuse .badField, s)
    else enqueueBatch screenItem ((sitesIn sites).map fun i => ⟨.measure p, i⟩) s

/-- A job's item in the CHECK PATHS reply (R66). -/
def checkItem (j : Job) : List Byte := beSite j.site ++ beWork j.work ++ be8 j.id ++ be8 j.handle.val

/-- The CHECK jobs of a site set and a lane set, by site and by target lane within a site (R66). -/
def checkJobs (sites : List Site) (lanes : List Lane) : List NewJob :=
  sites.flatMap fun i => lanes.map fun l => ⟨.check l, i⟩

/-- CHECK PATHS (R66). -/
def reqCheckPaths (sites : BitVec 16) (lanes : BitVec 8) (s : State) : Response × State :=
  match lanesIn? lanes with
  | none => (refuse .badField, s)
  | some ls =>
    if sites = 0 ∨ lanes = 0 then (refuse .badField, s)
    else enqueueBatch checkItem (checkJobs (sitesIn sites) ls) s

/-! ### CANCEL (R77) -/

/-- A selector of CANCEL in range (R77, R194). -/
inductive Selector where
  | job (id : Nat)
  | site (i : Site)
  | batch (b : Nat)
  deriving DecidableEq, Repr

/-- Reads a selector: type 1 a job id, 2 a site, 3 a batch. -/
def selectorOf? (type value : Nat) : Option Selector :=
  match type with
  | 1 => if 1 ≤ value ∧ value ≤ 255 then some (.job value) else none
  | 2 => (siteOf? value).map .site
  | 3 => if 1 ≤ value ∧ value ≤ 255 then some (.batch value) else none
  | _ => none

/-- A listed job is selected. -/
def Selector.selects : Selector → Job → Bool
  | .job id, j => j.id == id
  | .site i, j => j.site == i
  | .batch b, j => j.batch == some b

/-- Cancels one selected job: a QUEUED one ends in the list, a RUNNING one is abandoned by its lane (R77,
R101). -/
def cancelJob (s : State) (j : Job) : State :=
  match j.running with
  | none => endInList .cancelled s j
  | some l => endJob l j (bareEnd .cancelled (s.lane l).run.coarse) .idle s

/-- CANCEL (R77). -/
def reqCancel (selector value : Nat) (s : State) : Response × State :=
  match selectorOf? selector value with
  | none => (refuse .badField, s)
  | some x =>
    match s.jobs.filter x.selects with
    | [] => (refuse .noSuch, s)
    | j :: rest =>
      let chosen := j :: rest
      (okWith (be8 chosen.length ++ be8 (chosen.countP fun j => !j.queued)), chosen.foldl cancelJob s)

/-! ### PAUSE, RESUME, QUERY QUEUE (R79, R80) -/

/-- The pause flag takes a value, and the reply carries it (R79). -/
def setPause (flag : Bool) (s : State) : Response × State :=
  (okWith (beBool flag), s.modJc fun c => { c with paused := flag })

/-- PAUSE (R79). -/
def reqPause (s : State) : Response × State := setPause true s

/-- RESUME (R79). -/
def reqResume (s : State) : Response × State := setPause false s

/-- The fixed fields of QUERY QUEUE (R80, R198). -/
def queueHead (s : State) : List Byte :=
  beBool s.jc.paused ++ be8 s.jobs.length ++ be8 (s.jobs.countP fun j => !j.queued) ++ be8 (freeSlots s)
    ++ be8 s.jc.lastJobId ++ be8 s.jc.lastBatchId

/-- Items in segments of a size, the fixed fields in front of segment 0; one segment at least (R198). -/
def segmented (head : List Byte) (size : Nat) (items : List (List Byte)) : List (List Byte) :=
  match chunks size items.length items with
  | [] => [head]
  | c :: cs => (head ++ c.flatten) :: cs.map List.flatten

/-- QUERY QUEUE (R80): 10 entries in a segment. -/
def reqQueryQueue (s : State) : Response × State :=
  (okSegments (segmented (queueHead s) 10 (s.jobs.map jobBytes)), s)

end Sys2Proof.Machine
end

