-- ==== Sys2Proof/Machine/LaneRequests.lean ====
section
/-!
DEFINITION. The requests of chapter 2: QUERY TIMEBASE (R29), QUERY LANE (R40), RECALIBRATE (R38) and LANE MODE
(R39).
-/
namespace Sys2Proof.Machine

/-- QUERY TIMEBASE (R29). -/
def reqQueryTimebase (s : State) : Response × State :=
  (okWith (be8 s.ref.state.code ++ be8 s.ref.source.code ++ beTick s.ref.tick ++ be8 s.ref.progress
    ++ be16 s.ref.lastCheck), s)

/-- QUERY LANE (R40). -/
def reqQueryLane (lane : Nat) (s : State) : Response × State :=
  match laneOf? lane with
  | none => (refuse .badField, s)
  | some l => (okWith (laneSummary (s.lane l)), s)

/-- The reply that carries the lane state after the request (R38, R39). -/
def laneStateReply (l : Lane) (s : State) : Response × State := (okWith (be8 (s.lane l).state.code), s)

/-- RECALIBRATE (R38). -/
def reqRecalibrate (lane : Nat) (s : State) : Response × State :=
  match laneOf? lane with
  | none => (refuse .badField, s)
  | some l =>
    match (s.lane l).state with
    | .idle | .uncalibrated =>
      if s.ref.state = .locked then laneStateReply l (startCalibration l s) else (refuse .state, s)
    | .faulted =>
      if s.ref.state = .locked then
        laneStateReply l (startCalibration l (s.modLane l fun c => { c with calFails := 0 }))
      else (refuse .state, s)
    | .disabled => (refuse .state, s)
    | .calibrating | .attaching | .acquiring | .discarding | .capturing | .reducing => (refuse .busy, s)

/-- LANE MODE ENABLE (R39). -/
def reqLaneEnable (lane : Nat) (s : State) : Response × State :=
  match laneOf? lane with
  | none => (refuse .badField, s)
  | some l =>
    if (s.lane l).state = .disabled then
      let s1 := s.modLane l fun c => { c with calFails := 0, state := .uncalibrated }
      laneStateReply l (if s.ref.state = .locked then startCalibration l s1 else s1)
    else laneStateReply l s

/-- A lane that is not DISABLED enters DISABLED: a measuring lane gives its job back PREEMPTED, a calibration is
abandoned, a hold ends, and QUEUED checks on the lane end NO_PATH (R39, R75, R103, R152). -/
def disableLane (l : Lane) (s : State) : State :=
  let s1 := if isMeasuring (s.lane l).state then giveBack l .preempted .disabled s else s
  endChecksOn l (s1.modLane l fun c => { endHold c with state := .disabled, calLeft := .idle })

/-- LANE MODE DISABLE (R39). -/
def reqLaneDisable (lane : Nat) (s : State) : Response × State :=
  match laneOf? lane with
  | none => (refuse .badField, s)
  | some l => laneStateReply l (if (s.lane l).state = .disabled then s else disableLane l s)

end Sys2Proof.Machine
end

