-- ==== Sys2Proof/Machine/PlanRequests.lean ====
section
/-!
DEFINITION. The Plan Store: validation (R45, R46, R48), protection and in-use (R49, R50), and its requests
(R51 to R57).
-/
namespace Sys2Proof.Machine

/-! ### Validation -/

/-- An offset or band edge lies in the usable offset range, on the integers of the record (R45). -/
def inOffsetRange (p : Plan) (x : Nat) : Bool :=
  2 * p.nominal ≤ x * p.stride * 1024 && x * p.stride * 1024 ≤ 511 * p.nominal

/-- Each offset is above the one before it (R46). -/
def ascending : List Nat → Bool
  | [] => true
  | [_] => true
  | x :: y :: l => x < y && ascending (y :: l)

/-- The band condition of a plan: present exactly with PHASE, low below high, both in range (R46). -/
def bandValid (p : Plan) : Bool :=
  match p.band with
  | none => !p.hasPhase
  | some (lo, hi) => p.hasPhase && lo < hi && inOffsetRange p lo && inOffsetRange p hi

/-- The spot conditions of a plan (R46). -/
def spotsValid (p : Plan) : Bool :=
  (p.hasPhase || p.spots.isEmpty) && p.spots.length ≤ 8 && ascending p.spots && p.spots.all (inOffsetRange p)

/-- Every condition of R46 on the record, with the CAL_PERIOD held when the write is taken. -/
def planValid (calPeriod : Nat) (p : Plan) : Bool :=
  (1000000 ≤ p.nominal && p.nominal ≤ 250000000) && p.edge ≤ 1 && p.flags.toNat < 4
    && (1 ≤ p.stride && p.stride ≤ 4096) && (1 ≤ p.discard && p.discard ≤ 64)
    && (10 ≤ p.sampleExp && p.sampleExp ≤ 16) && (p.metrics.toNat != 0 && p.metrics.toNat < 16)
    && (!p.hasPhase || 11 ≤ p.sampleExp) && bandValid p && spotsValid p
    && fitsOpt (fun n => n < 16) p.limitSet && p.retryLimit ≤ 3
    && (10 ≤ p.budget && p.budget ≤ 30000 && p.budget ≤ 2 * calPeriod) && (1 ≤ p.window && p.window ≤ 2000)

/-- An entry of a list is one that R48 takes. -/
def entryValid (e : LimitEntry) : Bool :=
  e.selector ≤ 15 && e.comparison ≤ 2 && (1 ≤ e.bin && e.bin ≤ 6)
    && (match e.comparison with
        | 0 => e.lo == 0
        | 1 => e.hi == 0
        | _ => e.lo ≤ e.hi)

/-- A list of limit entries is valid (R48). -/
def limitsValid (entries : List LimitEntry) : Bool :=
  1 ≤ entries.length && entries.length ≤ 12 && entries.all entryValid

/-! ### Protection and in-use (R49, R50) -/

/-- A plan is protected: its index is below the boundary. -/
def planProtected (s : State) (p : PlanIx) : Bool := p.val < s.store.boundary

/-- All plan places, in order. -/
def allPlans : List PlanIx := List.finRange 24

/-- A DEFINED plan names a limit set. -/
def namesLimits (s : State) (x : LimitIx) (p : PlanIx) : Bool :=
  match s.plan p with
  | none => false
  | some r => r.limitSet == some x.val

/-- A limit set is protected: a DEFINED protected plan names it. -/
def limitsProtected (s : State) (x : LimitIx) : Bool :=
  allPlans.any fun p => planProtected s p && namesLimits s x p

/-- A plan is in use: a listed job references it. -/
def planInUse (s : State) (p : PlanIx) : Bool := s.jobs.any fun j => j.work == .measure p

/-- A limit set is in use: a listed job references a plan that names it. -/
def limitsInUse (s : State) (x : LimitIx) : Bool :=
  allPlans.any fun p => namesLimits s x p && planInUse s p

/-- Sets the contents of a plan place. -/
def setPlan (p : PlanIx) (r : Option Plan) (s : State) : State :=
  s.modStore fun x => { x with plans := x.plans.set p r }

/-- Sets the contents of a limit-set place. -/
def setLimits (x : LimitIx) (r : Option (List LimitEntry)) (s : State) : State :=
  s.modStore fun y => { y with limits := y.limits.set x r }

/-! ### Requests (R51 to R57) -/

/-- WRITE PLAN (R51). -/
def reqWritePlan (index : Nat) (plan : Plan) (s : State) : Response × State :=
  match planOf? index with
  | none => (refuse .badField, s)
  | some p =>
    if !planValid s.settings.calPeriod plan then (refuse .badField, s)
    else if planProtected s p then (refuse .isProtected, s)
    else if planInUse s p then (refuse .inUse, s)
    else (okWith [], setPlan p (some plan) s)

/-- ERASE PLAN (R52). -/
def reqErasePlan (index : Nat) (s : State) : Response × State :=
  match planOf? index with
  | none => (refuse .badField, s)
  | some p =>
    if planProtected s p then (refuse .isProtected, s)
    else if planInUse s p then (refuse .inUse, s)
    else (okWith [], setPlan p none s)

/-- READ PLAN (R53). -/
def reqReadPlan (index : Nat) (s : State) : Response × State :=
  match planOf? index with
  | none => (refuse .badField, s)
  | some p =>
    match s.plan p with
    | none => (refuse .noSuch, s)
    | some r => (okWith (r.bytes ++ beBool (planProtected s p) ++ beBool (planInUse s p)), s)

/-- WRITE LIMITS (R54). -/
def reqWriteLimits (index : Nat) (entries : List LimitEntry) (s : State) : Response × State :=
  match limitOf? index with
  | none => (refuse .badField, s)
  | some x =>
    if !limitsValid entries then (refuse .badField, s)
    else if limitsProtected s x then (refuse .isProtected, s)
    else if limitsInUse s x then (refuse .inUse, s)
    else (okWith [], setLimits x (some entries) s)

/-- ERASE LIMITS (R55). -/
def reqEraseLimits (index : Nat) (s : State) : Response × State :=
  match limitOf? index with
  | none => (refuse .badField, s)
  | some x =>
    if limitsProtected s x then (refuse .isProtected, s)
    else if limitsInUse s x then (refuse .inUse, s)
    else (okWith [], setLimits x none s)

/-- READ LIMITS (R56). -/
def reqReadLimits (index : Nat) (s : State) : Response × State :=
  match limitOf? index with
  | none => (refuse .badField, s)
  | some x =>
    match s.limitSet x with
    | none => (refuse .noSuch, s)
    | some l =>
      (okWith (beList LimitEntry.bytes l ++ beBool (limitsProtected s x) ++ beBool (limitsInUse s x)), s)

/-- PROTECT (R57): a lowering needs SETUP high. -/
def reqProtect (boundary : Option Nat) (s : State) : Response × State :=
  match boundary with
  | none => (okWith (be8 s.store.boundary), s)
  | some b =>
    if 24 < b then (refuse .badField, s)
    else if s.store.boundary ≤ b || s.pins.setup then
      (okWith (be8 b), s.modStore fun x => { x with boundary := b })
    else (refuse .isProtected, s)

end Sys2Proof.Machine
end

