-- ==== Sys2Proof/Machine/ResultRequests.lean ====
section
/-!
DEFINITION. The requests that the Result Store owns: TAKE COMPLETION (R138), READ RESULT (R139) and FREE RESULT
(R140).
-/
namespace Sys2Proof.Machine

/-- The completion queue loses its head, and the head's slot becomes TAKEN (R138). -/
def takeHead (h : Handle) (rest : List Handle) (r : ResultRecord) (s : State) : State :=
  (s.setSlot h (.taken r)).modResults fun x => { x with queue := rest }

/-- TAKE COMPLETION (R138). The queue names FILLED slots only (R136; log 20). -/
def reqTakeCompletion (s : State) : Response × State :=
  match s.results.queue with
  | [] => (refuse .noSuch, s)
  | h :: rest =>
    match (s.slot h).record? with
    | none => (refuse .noSuch, s)
    | some r => (okWith (completionBytes h r ++ be8 rest.length), takeHead h rest r s)

/-- READ RESULT (R139). -/
def reqReadResult (handle : Nat) (s : State) : Response × State :=
  match handleOf? handle with
  | none => (refuse .badField, s)
  | some h =>
    match (s.slot h).record? with
    | none => (refuse .noSuch, s)
    | some r => (okWith (resultBytes h r), s)

/-- FREE RESULT (R140). -/
def reqFreeResult (handle : Nat) (s : State) : Response × State :=
  match handleOf? handle with
  | none => (refuse .badField, s)
  | some h =>
    match s.slot h with
    | .taken _ => (okWith [], s.setSlot h .free)
    | .filled _ => (refuse .state, s)
    | .free | .reserved => (refuse .noSuch, s)

end Sys2Proof.Machine
end

