-- ==== Sys2Proof/Machine/SettingRequests.lean ====
section
/-!
DEFINITION. QUERY PATHS (R171), the settings table with SET CONFIG and GET CONFIG (R22, R41, R154, R169, R170,
R187 to R189), READ ALERTS (R186) and RESTART's acceptance (R182).
-/
namespace Sys2Proof.Machine

/-! ### QUERY PATHS (R171, R198) -/

/-- The set of sites, among those reported, that have a usable path. -/
def usableMask (s : State) (sites : List Site) : Nat :=
  (sites.map fun i => if hasUsablePath s i then 2 ^ i.val else 0).sum

/-- The entries of a site's four paths. -/
def sitePathItems (s : State) (i : Site) : List (List Byte) := allLanes.map fun l => pathBytes i l (s.path i l)

/-- The reply of QUERY PATHS for the sites reported: 8 entries in a segment. -/
def pathsReply (s : State) (sites : List Site) : Response :=
  let items := sites.flatMap (sitePathItems s)
  okSegments (segmented (be8 items.length ++ be16 (usableMask s sites)) 8 items)

/-- QUERY PATHS (R171). -/
def reqQueryPaths (site : Option Nat) (s : State) : Response × State :=
  match optional? siteOf? site with
  | none => (refuse .badField, s)
  | some none => (pathsReply s allSites, s)
  | some (some i) => (pathsReply s [i], s)

/-! ### Settings (10.6, 10.8) -/

/-- The eight settings. -/
inductive Setting where
  | calPeriod | quietWindow | debounce | holdLimit | floorGood | floorMarginal | requireChecked | alertMask
  deriving DecidableEq, Repr

/-- The setting of a code (R193). -/
def settingOf? (n : Nat) : Option Setting :=
  match n with
  | 0 => some .calPeriod
  | 1 => some .quietWindow
  | 2 => some .debounce
  | 3 => some .holdLimit
  | 4 => some .floorGood
  | 5 => some .floorMarginal
  | 6 => some .requireChecked
  | 7 => some .alertMask
  | _ => none

/-- The code of a setting (R193). -/
def Setting.code : Setting → Nat
  | .calPeriod => 0
  | .quietWindow => 1
  | .debounce => 2
  | .holdLimit => 3
  | .floorGood => 4
  | .floorMarginal => 5
  | .requireChecked => 6
  | .alertMask => 7

/-- The value the table holds, as the wire carries it. -/
def Settings.get (t : Settings) : Setting → Nat
  | .calPeriod => t.calPeriod
  | .quietWindow => t.quietWindow
  | .debounce => t.debounce
  | .holdLimit => t.holdLimit
  | .floorGood => t.floorGood
  | .floorMarginal => t.floorMarginal
  | .requireChecked => if t.requireChecked then 1 else 0
  | .alertMask => t.alertMask.toNat

/-- A value is written into the table. -/
def Settings.put (t : Settings) (v : Nat) : Setting → Settings
  | .calPeriod => { t with calPeriod := v }
  | .quietWindow => { t with quietWindow := v }
  | .debounce => { t with debounce := v }
  | .holdLimit => { t with holdLimit := v }
  | .floorGood => { t with floorGood := v }
  | .floorMarginal => { t with floorMarginal := v }
  | .requireChecked => { t with requireChecked := v == 1 }
  | .alertMask => { t with alertMask := BitVec.ofNat 6 v }

/-- A value outside a setting's range (R22, R41, R154, R169, R170, R187). -/
def outOfRange (t : Settings) (v : Nat) : Setting → Bool
  | .calPeriod => v < 1000 || 60000 < v
  | .quietWindow => 500 < v
  | .debounce => v < 1 || 50 < v
  | .holdLimit => v < 100 || 60000 < v
  | .floorGood => v < 1 || 100000 < v || t.floorMarginal < v
  | .floorMarginal => 100000 < v || v < t.floorGood
  | .requireChecked => 1 < v
  | .alertMask => 63 < v

/-- A DEFINED plan has a budget greater than twice a value (R41). -/
def budgetAbove (s : State) (v : Nat) : Bool :=
  (List.finRange 24).any fun p : PlanIx =>
    match s.plan p with
    | none => false
    | some r => 2 * v < r.budget

/-- A value in range that the state of the plans or of the job list refuses (R41, R170). -/
def settingInUse (s : State) (v : Nat) : Setting → Bool
  | .calPeriod => budgetAbove s v
  | .requireChecked => !s.jobs.isEmpty
  | .quietWindow | .debounce | .holdLimit | .floorGood | .floorMarginal | .alertMask => false

/-- Writes a setting (R188). -/
def writeSetting (x : Setting) (v : Nat) (s : State) : State :=
  s.modLink fun k => { k with settings := k.settings.put v x }

/-- The reply with a setting's code and the value now held (R188, R189, R194). -/
def settingReply (x : Setting) (s : State) : Response × State :=
  (okWith (be8 x.code ++ be32 (s.settings.get x)), s)

/-- SET CONFIG (R188), checked by the rule of the setting's owner. -/
def reqSetConfig (setting value : Nat) (s : State) : Response × State :=
  match settingOf? setting with
  | none => (refuse .badField, s)
  | some x =>
    if outOfRange s.settings value x then (refuse .badField, s)
    else if settingInUse s value x then (refuse .inUse, s)
    else settingReply x (writeSetting x value s)

/-- GET CONFIG (R189). -/
def reqGetConfig (setting : Nat) (s : State) : Response × State :=
  match settingOf? setting with
  | none => (refuse .badField, s)
  | some x => settingReply x s

/-! ### READ ALERTS and RESTART (R186, R182) -/

/-- The data of READ ALERTS: the flags and the three masks (R186, R194). -/
def alertBytes (a : Alerts) : List Byte :=
  be8 a.flags.toNat ++ be8 a.laneFaulted.toNat ++ be16 a.supplyFault.toNat ++ be8 a.holdExpired.toNat

/-- READ ALERTS (R186): every flag and mask is reported and cleared. -/
def reqReadAlerts (s : State) : Response × State :=
  (okWith (alertBytes s.link.alerts), s.modLink fun k => { k with alerts := .clear })

/-- RESTART (R182): accepted; it acts when its reply has been sent. -/
def reqRestart (s : State) : Response × State :=
  (okWith [], s.modLink fun k => { k with restartOwed := true })

end Sys2Proof.Machine
end

