-- ==== Sys2Proof/Machine/SiteEvents.lean ====
section
/-!
DEFINITION. The Site Controller at a service tick (R3, R10, R11, R13) and its events: contact rise and fall
(R4, R5), supply-fault trip (R13), settle and quiet expiry (R10, R11), and the site table at RESTART (R24).
-/
namespace Sys2Proof.Machine

/-! ### Sampling (R3, R13) -/

/-- The debounce of one site at a tick: the run of differing samples, and the mark of a debounced change
when the run reaches DEBOUNCE (R3; log 14). -/
def sampleContact (debounce : Nat) (raw : Bool) (r : SiteRecord) : SiteRecord :=
  if raw = r.contact then { r with run := 0, changeDue := false }
  else { r with run := r.run + 1, changeDue := debounce ≤ r.run + 1 }

/-- SUPPLY_FLT of one site at a tick, sampled while its supply is ON (R13; log 14). -/
def sampleFault (flt : Bool) (r : SiteRecord) : SiteRecord := { r with tripDue := r.supply && flt }

/-- A service tick at a site record: both samples, and the settle countdown (R3, R10, R13). -/
def tickSite (debounce : Nat) (raw flt : Bool) (r : SiteRecord) : SiteRecord :=
  sampleFault flt (sampleContact debounce raw { r with settle := r.settle.tick })

/-! ### Contact (R4, R5) -/

/-- The debounced contact takes the raw level and the run is 0 (R3). -/
def takeContact (level : Bool) (r : SiteRecord) : SiteRecord :=
  { r with contact := level, run := 0, changeDue := false }

/-- A site owes a debounced rise that raises an autopower claim (R4). -/
def owesClaim (r : SiteRecord) : Bool := r.changeDue && !r.contact && r.state == .vacant && r.autopower

/-- The sites of a quad whose autopower claims are found at one tick (R4, R7). -/
def owedClaims (s : State) (q : Quad) : List Site := (quadSites q).filter fun i => owesClaim (s.site i)

/-- A VACANT site takes its debounced rise: SEATED (R4). -/
def seat (s : State) (i : Site) : State := s.modSite i fun r => { takeContact true r with state := .seated }

/-- The rises taken with the autopower claim of a site: those of all the claims that its quad owes where they switch on
at once, since they are one event (R7, R21; log 34); else its own, the claim being deferred (R6). -/
def risesWith (i : Site) (s : State) : List Site :=
  if quadAttached s (quadOf i) then [i] else owedClaims s (quadOf i)

/-- A debounced contact rise, when one is owed (R4): VACANT goes to SEATED, and claims power by autopower; in every
other state only the contact is recorded. -/
def contactRise (i : Site) (s : State) : State :=
  let r := s.site i
  if r.changeDue && !r.contact then
    if r.state = .vacant then
      if r.autopower then claimTogether (quadOf i) (risesWith i s) ((risesWith i s).foldl seat s) else seat s i
    else s.modSite i (takeContact true)
  else s

/-- A debounced contact fall, when one is owed (R5): to VACANT from every state but DISABLED, a powered site
with its switch-off first, and the entry into VACANT announced (R15, R74). -/
def contactFall (i : Site) (s : State) : State :=
  let r := s.site i
  if r.changeDue && r.contact then
    let s1 := s.modSite i (takeContact false)
    match r.state with
    | .disabled | .vacant => s1
    | .seated | .powerPending | .fault => announce i (s1.modSite i fun r => { r with state := .vacant })
    | .settling | .ready => announce i (switchOff i .vacant .contactFall s1)
  else s

/-! ### Supply faults (R13) -/

/-- A supply-fault trip, when one is owed and the supply is still ON (R5, R13), in the order R13 lists. -/
def supplyFaultTrip (i : Site) (s : State) : State :=
  let r := s.site i
  if r.tripDue && r.supply then
    let s1 := s.modSite i fun r => { r with faults := min 255 (r.faults + 1) }
    announce i (raiseSupplyFault i (switchOff i .fault .faultTrip s1))
  else s

/-! ### Settle and quiet (R10, R11) -/

/-- The settle countdown of a SETTLING site reaches 0: the site is READY (R10). -/
def settleExpiry (i : Site) (s : State) : State :=
  let r := s.site i
  if r.state = .settling ∧ r.settle.due then s.modSite i fun r => { r with state := .ready, settle := .idle }
  else s

/-- The quiet countdown of a quad reaches 0 (R11). -/
def quietExpiry (q : Quad) (s : State) : State :=
  if (s.quietOf q).due then s.setQuiet q .idle else s

/-! ### RESTART (R24) -/

/-- A site at RESTART: unattached; a powered or pending site goes to SEATED or VACANT by its contact with its
supply OFF; the rest of the record is kept. -/
def restartSite (r : SiteRecord) : SiteRecord :=
  let r1 := unattached r
  match r.state with
  | .settling | .ready | .powerPending =>
    switchedOff (if r.contact then .seated else .vacant) r1
  | .disabled | .fault | .seated | .vacant => r1

/-- A quad has a site with its supply ON. -/
def quadPowered (s : State) (q : Quad) : Bool := (quadSites q).any fun i => (s.site i).supply

/-- The site table at RESTART: the quiet countdown restarts in each quad where a supply went OFF. The lanes
have no part in the RESTART_OFF events, since RESTART detaches them (R24, R99, R108). -/
def restartSites (s : State) : State :=
  (s.mapQuiet fun q c => if quadPowered s q then .load s.settings.quietWindow else c).mapSites
    fun _ r => restartSite r

end Sys2Proof.Machine
end

