-- ==== Sys2Proof/Machine/SiteRequests.lean ====
section
/-!
DEFINITION. The requests that the Site Controller owns: SITE MODE, POWER, CLEAR SITE, QUERY SITES (R17 to
R21). Each takes its fields and the state, and answers with the state after its one change.
-/
namespace Sys2Proof.Machine

/-- The state a site takes up by its contact: SEATED or VACANT (R17, R20). -/
def restingState (contact : Bool) : SiteState := if contact then .seated else .vacant

/-- A site moves to a state, and the entry is announced where R15 says: VACANT, FAULT and DISABLED. -/
def enterSite (i : Site) (x : SiteState) (s : State) : State :=
  let s1 := s.modSite i fun r => { r with state := x }
  if x = .vacant ∨ x = .fault ∨ x = .disabled then announce i s1 else s1

/-- A site takes DISABLE: VACANT, SEATED or FAULT without an attachment, or DISABLED already (R17). -/
def mayDisable (r : SiteRecord) : Bool :=
  match r.state with
  | .disabled => true
  | .vacant | .seated | .fault => r.attachedLane.isNone
  | .powerPending | .settling | .ready => false

/-- The enable field of SITE MODE takes effect (R17). -/
def setEnable (i : Site) (enable : Option Bool) (s : State) : State :=
  let r := s.site i
  match enable with
  | none => s
  | some true => if r.state = .disabled then enterSite i (restingState r.contact) s else s
  | some false => if r.state = .disabled then s else enterSite i .disabled s

/-- The autopower and settle ticks fields of SITE MODE are written (R17). -/
def setSiteFields (autopower : Option Bool) (settle : Option Nat) (r : SiteRecord) : SiteRecord :=
  { r with autopower := autopower.getD r.autopower, settleTicks := settle.getD r.settleTicks }

/-- SITE MODE with fields in range (R17). -/
def applySiteMode (i : Site) (enable autopower : Option Bool) (settle : Option Nat) (s : State) :
    Response × State :=
  if enable = some false ∧ !mayDisable (s.site i) then (refuse .state, s)
  else
    let s1 := (setEnable i enable s).modSite i (setSiteFields autopower settle)
    (okWith (be8 (s1.site i).state.code), s1)

/-- SITE MODE (R17). -/
def reqSiteMode (site : Nat) (enable autopower settle : Option Nat) (s : State) : Response × State :=
  match siteOf? site, optional? flagOf? enable, optional? flagOf? autopower, optional? settleOf? settle with
  | some i, some e, some a, some t => applySiteMode i e a t s
  | _, _, _, _ => (refuse .badField, s)

/-- The outcome codes of POWER (R193). -/
def powerSwitched : List Byte := be8 0
/-- Outcome PENDING. -/
def powerPendingOutcome : List Byte := be8 1
/-- Outcome DONE. -/
def powerDone : List Byte := be8 2

/-- POWER ON (R18), by the claim rule of R6. -/
def reqPowerOn (site : Nat) (s : State) : Response × State :=
  match siteOf? site with
  | none => (refuse .badField, s)
  | some i =>
    match (s.site i).state with
    | .seated =>
      (okWith (if quadAttached s (quadOf i) then powerPendingOutcome else powerSwitched), claimPower i s)
    | .powerPending | .settling | .ready => (okWith powerDone, s)
    | .vacant | .disabled | .fault => (refuse .state, s)

/-- POWER OFF (R19). -/
def reqPowerOff (site : Nat) (s : State) : Response × State :=
  match siteOf? site with
  | none => (refuse .badField, s)
  | some i =>
    match (s.site i).state with
    | .settling | .ready => (okWith powerSwitched, switchOff i .seated .powerOff s)
    | .powerPending => (okWith powerDone, s.modSite i fun r => { r with state := .seated })
    | .disabled | .vacant | .seated | .fault => (okWith powerDone, s)

/-- CLEAR SITE (R20). -/
def reqClearSite (site : Nat) (s : State) : Response × State :=
  match siteOf? site with
  | none => (refuse .badField, s)
  | some i =>
    let r := s.site i
    if r.state = .fault then
      (okWith (be8 (restingState r.contact).code), enterSite i (restingState r.contact) s)
    else (refuse .state, s)

/-- The two segments of QUERY SITES (R21, R198). -/
def sitesReply (s : State) : List (List Byte) :=
  let summaries := allSites.map fun i => siteSummary (s.site i)
  [(summaries.take 12).flatten, (summaries.drop 12).flatten ++ allQuads.flatMap (quadSummary s)]

/-- QUERY SITES (R21). -/
def reqQuerySites (s : State) : Response × State := (okSegments (sitesReply s), s)

end Sys2Proof.Machine
end

