-- ==== Sys2Proof/Machine/SnapshotRequests.lean ====
section
/-!
DEFINITION. Snapshots and raw samples (R144 to R158): the snapshot record, SNAPSHOT, READ SNAPSHOT, RELEASE
LANE, the windows and blocks of READ SAMPLES, and NEXT with its follow context.
-/
namespace Sys2Proof.Machine

/-! ### Snapshots (R145 to R149) -/

/-- The running figures of a lane over its accumulators, none with no sample (R144). -/
def runningFigure (f : Accumulators → Nat → Int) (c : LaneContext) : Option Int :=
  if c.captured = 0 then none else c.acc.map fun a => f a c.captured

/-- The job a snapshot record names: that of the attached lane, else that of the ring content (R145). -/
def snapshotJob (c : LaneContext) : Option Nat :=
  match c.run.jobId with
  | some id => some id
  | none => c.ring.map (·.jobId)

/-- The snapshot record of a lane, formed now (R145). -/
def snapshotOf (s : State) (l : Lane) (live : Bool) : SnapshotRecord :=
  let c := s.lane l
  { lane := l
    jobId := snapshotJob c
    site := c.run.site
    taken := s.now
    captured := c.captured
    span := runningFigure (fun a _ => runningSpan a) c
    meanDev := runningFigure runningMean c
    periodRms := runningFigure runningRms c
    noData := c.state != .capturing
    live := live }

/-- The outcome codes of SNAPSHOT (R147, R193). -/
def snapshotOutcome (c : LaneContext) : Nat :=
  if c.latch.isSome then 1 else if c.state = .capturing then 0 else 2

/-- SNAPSHOT at one lane: an empty latch takes a record (R147). -/
def latchLane (s : State) (l : Lane) : State :=
  if (s.lane l).latch.isSome then s
  else s.modLane l fun c => { c with latch := some (snapshotOf s l false) }

/-- SNAPSHOT (R147). -/
def reqSnapshot (lanes : BitVec 8) (s : State) : Response × State :=
  match lanesIn? lanes with
  | none => (refuse .badField, s)
  | some ls =>
    if ls.isEmpty then (refuse .badField, s)
    else
      (okWith (beList (fun l => beLane l ++ be8 (snapshotOutcome (s.lane l))) ls), ls.foldl latchLane s)

/-- READ SNAPSHOT (R149). -/
def reqReadSnapshot (lane : Nat) (s : State) : Response × State :=
  match laneOf? lane with
  | none => (refuse .badField, s)
  | some l =>
    match (s.lane l).latch with
    | some r => (okWith (snapshotBytes r), s.modLane l fun c => { c with latch := none })
    | none => (okWith (snapshotBytes (snapshotOf s l true)), s)

/-- RELEASE LANE (R153): RELEASED or NOT_HELD. -/
def reqReleaseLane (lane : Nat) (s : State) : Response × State :=
  match laneOf? lane with
  | none => (refuse .badField, s)
  | some l =>
    if (s.lane l).hold then (okWith (be8 0), s.modLane l endHold)
    else (okWith (be8 1), s)

/-! ### Windows and blocks (R155, R156) -/

/-- The last sequence a ring holds. -/
def RingContent.last (r : RingContent) : Nat := r.first + r.samples.length - 1

/-- A sequence is held. -/
def RingContent.holds (r : RingContent) (n : Nat) : Bool := r.first ≤ n && n < r.first + r.samples.length

/-- The base of the window of a start sequence (R155). -/
def windowBase (r : RingContent) (start size : Nat) : Nat := r.first + size * ((start - r.first) / size)

/-- The last sequence of the window with a base (R155). -/
def windowEnd (r : RingContent) (base size : Nat) : Nat := min (base + size - 1) r.last

/-- The count of the block from a next index in a window that ends at `last` (R156). -/
def blockCount (last next : Nat) : Nat := min Config.blockSamples (last - next + 1)

/-- The next index after a block: it returns to the base past the window's end (R156). -/
def nextIndexAfter (base last next : Nat) : Nat :=
  if last < next + blockCount last next then base else next + blockCount last next

/-- The bytes of a block (R156, R197). -/
def blockBytes (l : Lane) (r : RingContent) (base last size next : Nat) : List Byte :=
  let n := blockCount last next
  beLane l ++ be8 r.jobId ++ be16 base ++ be16 size ++ be16 next ++ be8 n
    ++ ((r.samples.drop (next - r.first)).take n).flatMap sampleBytes

/-- The follow context takes a value. -/
def setFollow (f : Option Follow) (s : State) : State := s.modLink fun k => { k with follow := f }

/-- READ SAMPLES with fields in range, on a ring (R155 check 4, R156, R157). -/
def readRing (l : Lane) (r : RingContent) (start size : Nat) (follow : Bool) (s : State) : Response × State :=
  if !r.holds start then (refuse .badField, s)
  else
    let base := windowBase r start size
    let last := windowEnd r base size
    (okWith (blockBytes l r base last size start),
      setFollow (if follow then some ⟨l, base, last, size, nextIndexAfter base last start, false⟩ else none) s)

/-- READ SAMPLES (R155), its checks in order. -/
def reqReadSamples (lane start window follow : Nat) (s : State) : Response × State :=
  match laneOf? lane, windowOf? window, flagOf? follow with
  | some l, some size, some f =>
    if 65535 < start then (refuse .badField, s)
    else if isMeasuring (s.lane l).state then (refuse .busy, s)
    else
      match (s.lane l).ring with
      | none => (refuse .noSuch, s)
      | some r => readRing l r start size f s
  | _, _, _ => (refuse .badField, s)

/-- NEXT (R157). A context without its stale mark names a ring that is still there (R91, R158; log 20). -/
def reqNext (s : State) : Response × State :=
  match s.link.follow with
  | none => (refuse .state, s)
  | some f =>
    match f.stale, (s.lane f.lane).ring with
    | false, some r =>
      (okWith (blockBytes f.lane r f.base f.last f.size f.nextIndex),
        setFollow (some { f with nextIndex := nextIndexAfter f.base f.last f.nextIndex }) s)
    | _, _ => (refuse .noSuch, setFollow none s)

end Sys2Proof.Machine
end

