-- ==== Sys2Proof/Machine/Link.lean ====
section
/-!
DEFINITION. The Link Port: which owner a request is handed to, the taking of a request (R179, R180), the
receiver (R174 to R178), the end of a reply with the restart it may owe (R178, R182, R190), and reset (R183).
-/
namespace Sys2Proof.Machine

/-! ### Owners (R179 step 5) -/

/-- Hands a request to the block that owns it. An event is no request. -/
def handle : Instr → State → Response × State
  | .siteMode _ site enable autopower settle => reqSiteMode site enable autopower settle
  | .powerOn _ site => reqPowerOn site
  | .powerOff _ site => reqPowerOff site
  | .clearSite _ site => reqClearSite site
  | .querySites _ => reqQuerySites
  | .queryTimebase _ => reqQueryTimebase
  | .queryLane _ lane => reqQueryLane lane
  | .recalibrate _ lane => reqRecalibrate lane
  | .laneModeEnable _ lane => reqLaneEnable lane
  | .laneModeDisable _ lane => reqLaneDisable lane
  | .writePlan _ index plan => reqWritePlan index plan
  | .erasePlan _ index => reqErasePlan index
  | .readPlan _ index => reqReadPlan index
  | .writeLimits _ index entries => reqWriteLimits index entries
  | .eraseLimits _ index => reqEraseLimits index
  | .readLimits _ index => reqReadLimits index
  | .protect _ boundary _ => reqProtect boundary
  | .measure _ site plan => reqMeasure site plan
  | .screen _ sites plan => reqScreen sites plan
  | .checkPaths _ sites lanes => reqCheckPaths sites lanes
  | .cancel _ selector value => reqCancel selector value
  | .pause _ => reqPause
  | .resume _ => reqResume
  | .queryQueue _ => reqQueryQueue
  | .snapshot _ lanes => reqSnapshot lanes
  | .readSnapshot _ lane => reqReadSnapshot lane
  | .readSamples _ lane start window follow => reqReadSamples lane start window follow
  | .nextBlock => reqNext
  | .releaseLane _ lane => reqReleaseLane lane
  | .takeCompletion _ => reqTakeCompletion
  | .readResult _ handle => reqReadResult handle
  | .freeResult _ handle => reqFreeResult handle
  | .queryPaths _ site => reqQueryPaths site
  | .setConfig _ setting value => reqSetConfig setting value
  | .getConfig _ setting => reqGetConfig setting
  | .readAlerts _ => reqReadAlerts
  | .restart _ => reqRestart
  | .badKindRequest _ _ | .receiveByte _ _ | .gapExpiry | .replyComplete | .restartIssue
  | .restartBusyWindowEnd | .resetAssert | .resetEnd _ _ | .serviceTick _ _ _ | .contactRise _
  | .contactFall _ | .supplyFaultTrip _ | .settleExpiry _ | .quietExpiry _ | .checkIntervalEnd _
  | .calCounterExpiry _ | .quietTimeCalibration _ | .calibrationComplete _ _ _ | .lanePairing | .attachEnd _
  | .noSignalWindowEnd _ _ | .coarseFrequencyCheck _ _ _ _ | .lockAcquired _ | .lockWindowEnd _
  | .lossOfLock _ | .discardComplete _ | .sampleComplete _ _ _ _ | .checkCaptureEnd _ | .reductionEnd _
  | .budgetExpiry _ | .holdExpiry _ => fun s => (refuse .badKind, s)

/-! ### Taking a request (R179, R180) -/

/-- The kind of the reply to a body: its first byte with the top bit set, or 0xFE for BAD_KIND (R191). -/
def replyKind (body : List Byte) (x : Status) : Byte :=
  if x = .badKind then 0xFE else body.headD 0 ||| 0x80

/-- Step 1 of R179: a request of a kind other than NEXT ends the follow context (R158). -/
def endFollow (body : List Byte) (s : State) : State :=
  if body.head? = some nextKind then s else setFollow none s

/-- Step 2 of R179: the restart busy window is running (R182). -/
def inBusyWindow (s : State) : Bool := 0 < s.link.busy.left

/-- The reply to a body is pending, and the receiver is back in HUNT with no gap countdown (R178, R179). -/
def putReply (body : List Byte) (r : Response) (s : State) : State :=
  s.modLink fun k =>
    { k with receiver := .hunt, gap := .idle,
             reply := some (.answer (replyKind body r.status) (bodyTag body) r.status r.data) }

/-- A body is taken as a request: `act` is what steps 3 to 5 of R179 come to. -/
def takeBody (body : List Byte) (act : State → Response × State) (s : State) : State :=
  let s1 := endFollow body s
  let a := if inBusyWindow s1 then (refuse .busy, s1) else act s1
  putReply body a.1 a.2

/-- Steps 3 to 5 of R179 on the bytes of a body. -/
def answer (body : List Byte) (s : State) : Response × State :=
  match readBody s.pins.setup body with
  | .error x => (refuse x, s)
  | .ok i => handle i s

/-! ### The receiver (R174 to R178) -/

/-- A length that a frame can have (R174). -/
def lengthOk (b : Byte) : Bool := 1 ≤ b.toNat && b.toNat ≤ Config.maxBody

/-- The receiver goes to a state with the gap countdown loaded (R175). -/
def receive (x : Receiver) (s : State) : State :=
  s.modLink fun k => { k with receiver := x, gap := .load Config.gapTicks }

/-- The receiver goes back to HUNT, where the gap countdown does not run (R175; log 11). -/
def toHunt (s : State) : State := s.modLink fun k => { k with receiver := .hunt, gap := .idle }

/-- A NAK is decided: it is pending, and LINK_ERROR is raised (R177). -/
def decideNak (x : NakReason) (s : State) : State :=
  raiseAlert .linkError ((toHunt s).modLink fun k => { k with reply := some (.nak x) })

/-- A byte in CHECK (R174): the frame is taken as a request, or discarded with NAK CHECK. -/
def checkByte (body : List Byte) (b : Byte) (s : State) : State :=
  if b = crc8 (BitVec.ofNat 8 body.length :: body) then takeBody body (answer body) s else decideNak .check s

/-- A byte of a swallowed frame (R178). -/
def swallowByte (x : Swallow) (b : Byte) (s : State) : State :=
  match x with
  | .length => receive (.swallow (if lengthOk b then .bytes (b.toNat + 1) else .untilGap)) s
  | .bytes n => if n ≤ 1 then toHunt s else receive (.swallow (.bytes (n - 1))) s
  | .untilGap => receive (.swallow .untilGap) s

/-- A byte on RXD, by the receiver state (R174). -/
def acceptByte (b : Byte) (s : State) : State :=
  match s.link.receiver with
  | .hunt =>
    if b = syncByte then
      (if s.link.reply.isSome then raiseAlert .linkError (receive (.swallow .length) s) else receive .length s)
    else s
  | .length => receive (if lengthOk b then .body b.toNat [] else .drain) s
  | .body n got => receive (if n ≤ got.length + 1 then .check (got ++ [b]) else .body n (got ++ [b])) s
  | .check body => checkByte body b s
  | .drain => receive .drain s
  | .swallow x => swallowByte x b s

/-- The level of SETUP as last sampled. -/
def setSetup (level : Bool) (s : State) : State := s.modPins fun p => { p with setup := level }

/-- A byte on RXD with the level of SETUP as it is taken; ignored while RESETn is held (R183). -/
def receiveByte (b : Byte) (setup : Bool) (s : State) : State :=
  if s.pins.resetn then acceptByte b (setSetup setup s) else s

/-- Bytes on RXD, one after another, with SETUP at one level. -/
def feed (setup : Bool) (bytes : List Byte) (s : State) : State :=
  bytes.foldl (fun s b => receiveByte b setup s) s

/-- The gap countdown reaches 0 (R175, R176, R178). -/
def gapExpiry (s : State) : State :=
  if s.link.gap.due then
    match s.link.receiver with
    | .length | .body _ _ | .check _ => decideNak .gap s
    | .drain => decideNak .length s
    | .swallow _ | .hunt => toHunt s
  else s

/-! ### A request as one command (log 2) -/

/-- A frame that begins now is received: RESETn is high, the receiver hunts and no reply is pending. -/
def listening (s : State) : Bool := s.pins.resetn && s.link.receiver == .hunt && s.link.reply.isNone

/-- The whole frame of a request arrives with SETUP at a level. Where the Link Port listens, the request is
taken; else the bytes of its frame meet the receiver one by one (log 2). -/
def request (setup : Bool) (i : Instr) (act : State → Response × State) (s : State) : State :=
  if listening s then takeBody (requestBody i) act (setSetup setup s)
  else feed setup (frameOf (requestBody i)) s

/-! ### The end of a reply, and RESTART (R178, R182, R190) -/

/-- A lane at RESTART: a measuring lane abandons its job and enters IDLE with its run state cleared; the latch
is emptied and a hold ends (R42, R108, R160). -/
def restartLane (c : LaneContext) : LaneContext :=
  let c1 := { endHold c with latch := none }
  if isMeasuring c.state then { c1 with state := .idle, run := .idle } else c1

/-- The Link Port at RESTART: the reply that owed it has ended, the follow context ends, the alerts are cleared
and the busy window starts (R178, R182, R190). -/
def restartLink (k : LinkPort) : LinkPort :=
  { k with reply := none, restartOwed := false, follow := none, alerts := .clear,
           busy := .load Config.busyTicks }

/-- The restart at every block (R24, R42, R82, R108, R143, R160, R190); RESTARTED is raised last. -/
def issueRestart (s : State) : State :=
  let s1 := ((restartSites s).mapLanes restartLane).setJobs []
  raiseAlert .restarted ((s1.modResults fun _ => .atReset).modLink restartLink)

/-- The restart is issued, when one is owed (R182; log 10). -/
def restartIssue (s : State) : State := if s.link.restartOwed then issueRestart s else s

/-- The last byte of a pending reply or NAK has left TXD (R178). The reply of RESTART issues the restart in that
change (R182; log 10). -/
def replyComplete (s : State) : State :=
  if s.link.restartOwed then issueRestart s else s.modLink fun k => { k with reply := none }

/-- The restart busy window reaches 0 (R182). -/
def restartBusyWindowEnd (s : State) : State :=
  if s.link.busy.due then s.modLink fun k => { k with busy := .idle } else s

/-! ### Reset (R23, R30, R42, R59, R81, R107, R142, R159, R172, R183) -/

/-- The part with the values after reset, but for the model's own fields and the other pins. -/
def resetTo (contact : BitVec 16) (rate : BitVec 2) (s : State) : State :=
  let r := State.atReset contact rate
  { r with pins := { s.pins with contact := contact, resetn := true }, laneOrder := s.laneOrder,
           free := s.free, pending := s.pending }

/-- RESETn falls, or power-on begins: every block takes its reset values at once, no alert is raised, and the
part is held (R183; log 9). -/
def resetAssert (s : State) : State :=
  ((resetTo s.pins.contact s.link.rate s).modLink fun k => { k with alerts := .clear }).modPins
    fun p => { p with resetn := false }

/-- RESETn returns high, or power-on ends: CONTACT and RATE are sampled, and RESTARTED is set (R23, R183). -/
def resetEnd (contact : BitVec 16) (rate : BitVec 2) (s : State) : State :=
  if s.pins.resetn then s else resetTo contact rate s

end Sys2Proof.Machine
end

