-- ==== Sys2Proof/Machine/Tick.lean ====
section
/-!
DEFINITION. The service tick (R28): what is still owed from the tick before is taken (log 5), the tick count
rises, the lines are sampled (R3, R13) and every running countdown falls by one.
-/
namespace Sys2Proof.Machine

/-! ### What is owed before the next tick (log 5) -/

/-- What a site owes: a debounced change, a supply-fault trip, a settle expiry. -/
def drainSite (s : State) (i : Site) : State :=
  settleExpiry i (supplyFaultTrip i (contactRise i (contactFall i s)))

/-- What a quad owes: a quiet expiry. -/
def drainQuad (s : State) (q : Quad) : State := quietExpiry q s

/-- What a lane owes of its countdowns, and of a lock window whose last test brought no lock (log 29). -/
def drainLane (s : State) (l : Lane) : State :=
  holdExpiry l (budgetExpiry l (reductionEnd l (checkCaptureEnd l (lockWindowLapse l (attachEnd l
    (calCounterExpiry l s))))))

/-- A pairing that is owed; one for each lane at most. -/
def drainPairing (s : State) (_ : Lane) : State := lanePairing s

/-- A quiet-time calibration that is owed. -/
def drainQuiet (s : State) (l : Lane) : State := quietTimeCalibration l s

/-- Everything still owed that needs no word from outside the part, in one fixed order (log 5). -/
def drain (s : State) : State :=
  let s1 := allQuads.foldl drainQuad (allSites.foldl drainSite s)
  let s2 := restartBusyWindowEnd (gapExpiry (allLanes.foldl drainLane s1))
  allLanes.foldl drainQuiet (allLanes.foldl drainPairing s2)

/-! ### The tick itself -/

/-- A lane's countdowns at a tick. The cal counter falls only in IDLE and the measuring states (R32). -/
def tickLane (c : LaneContext) : LaneContext :=
  { c with
    calCounter := if counterRuns c.state then c.calCounter.tick else c.calCounter
    calLeft := c.calLeft.tick
    holdLeft := c.holdLeft.tick
    run := { c.run with
      budget := c.run.budget.tick
      attach := c.run.attach.tick
      capture := c.run.capture.tick
      reduce := c.run.reduce.tick } }

/-- The Link Port's countdowns at a tick (R175, R182). -/
def tickLink (k : LinkPort) : LinkPort := { k with gap := k.gap.tick, busy := k.busy.tick }

/-- The pins and the lane order of a tick (log 7). -/
def sampleLines (contact supplyFlt : BitVec 16) (order : Fin 24) (s : State) : State :=
  { s.modPins (fun p => { p with contact := contact, supplyFlt := supplyFlt }) with laneOrder := order }

/-- A service tick at every block (R28). -/
def tickAll (contact supplyFlt : BitVec 16) (s : State) : State :=
  let s1 := s.modRef fun r => { r with tick := r.tick + 1 }
  let s2 := s1.mapSites fun i r =>
    tickSite s.settings.debounce (contact.getLsbD i.val) (supplyFlt.getLsbD i.val) r
  ((s2.mapQuiet fun _ c => c.tick).mapLanes tickLane).modLink tickLink

/-- A service tick (R28), after what is still owed. -/
def serviceTick (contact supplyFlt : BitVec 16) (order : Fin 24) (s : State) : State :=
  tickAll contact supplyFlt (sampleLines contact supplyFlt order (drain s))

end Sys2Proof.Machine
end

