-- ==== Sys2Proof/Machine/Events.lean ====
section
/-!
DEFINITION. The meaning of each event. Nothing happens while RESETn is held but the end of the reset (R183);
an event that is not due has no effect (log 3).
-/
namespace Sys2Proof.Machine

/-- An event of the running part; while RESETn is held it has no effect (R183). -/
def occurs (f : State → State) (s : State) : Host.Outcome State Fault Refusal :=
  .next (if s.pins.resetn then f s else s)

/-- RECEIVE_BYTE (R174). -/
def execReceiveByte (byte : Byte) (setup : Bool) (s : State) : Host.Outcome State Fault Refusal :=
  .next (receiveByte byte setup s)

/-- GAP_EXPIRY (R175). -/
def execGapExpiry (s : State) : Host.Outcome State Fault Refusal :=
  occurs gapExpiry s

/-- REPLY_COMPLETE (R178). -/
def execReplyComplete (s : State) : Host.Outcome State Fault Refusal :=
  occurs replyComplete s

/-- RESTART_ISSUE (R182). -/
def execRestartIssue (s : State) : Host.Outcome State Fault Refusal :=
  occurs restartIssue s

/-- RESTART_BUSY_WINDOW_END (R182). -/
def execRestartBusyWindowEnd (s : State) : Host.Outcome State Fault Refusal :=
  occurs restartBusyWindowEnd s

/-- RESET_ASSERT (R183). -/
def execResetAssert (s : State) : Host.Outcome State Fault Refusal :=
  .next (resetAssert s)

/-- RESET_END (R183). -/
def execResetEnd (contact : BitVec 16) (rate : BitVec 2) (s : State) : Host.Outcome State Fault Refusal :=
  .next (resetEnd contact rate s)

/-- SERVICE_TICK (R28). -/
def execServiceTick (contact supplyFlt : BitVec 16) (order : Fin 24) (s : State) :
    Host.Outcome State Fault Refusal :=
  occurs (serviceTick contact supplyFlt order) s

/-- CONTACT_RISE (R4). -/
def execContactRise (site : Site) (s : State) : Host.Outcome State Fault Refusal :=
  occurs (contactRise site) s

/-- CONTACT_FALL (R5). -/
def execContactFall (site : Site) (s : State) : Host.Outcome State Fault Refusal :=
  occurs (contactFall site) s

/-- SUPPLY_FAULT_TRIP (R13). -/
def execSupplyFaultTrip (site : Site) (s : State) : Host.Outcome State Fault Refusal :=
  occurs (supplyFaultTrip site) s

/-- SETTLE_EXPIRY (R10). -/
def execSettleExpiry (site : Site) (s : State) : Host.Outcome State Fault Refusal :=
  occurs (settleExpiry site) s

/-- QUIET_EXPIRY (R11). -/
def execQuietExpiry (quad : Quad) (s : State) : Host.Outcome State Fault Refusal :=
  occurs (quietExpiry quad) s

/-- CHECK_INTERVAL_END (R26, R27). -/
def execCheckIntervalEnd (edges : Nat) (s : State) : Host.Outcome State Fault Refusal :=
  occurs (checkIntervalEnd edges) s

/-- CAL_COUNTER_EXPIRY (R32). -/
def execCalCounterExpiry (lane : Lane) (s : State) : Host.Outcome State Fault Refusal :=
  occurs (calCounterExpiry lane) s

/-- QUIET_TIME_CALIBRATION (R33). -/
def execQuietTimeCalibration (lane : Lane) (s : State) : Host.Outcome State Fault Refusal :=
  occurs (quietTimeCalibration lane) s

/-- CALIBRATION_COMPLETE (R36). -/
def execCalibrationComplete (lane : Lane) (gain : Nat) (spread : Rat) (s : State) :
    Host.Outcome State Fault Refusal :=
  occurs (calibrationComplete lane gain spread) s

/-- LANE_PAIRING (R71). -/
def execLanePairing (s : State) : Host.Outcome State Fault Refusal :=
  occurs lanePairing s

/-- ATTACH_END (R85). -/
def execAttachEnd (lane : Lane) (s : State) : Host.Outcome State Fault Refusal :=
  occurs (attachEnd lane) s

/-- NO_SIGNAL_WINDOW_END (R86). -/
def execNoSignalWindowEnd (lane : Lane) (edges : List EdgeRun) (s : State) :
    Host.Outcome State Fault Refusal :=
  occurs (noSignalWindowEnd lane edges) s

/-- COARSE_FREQUENCY_CHECK (R87, R88). The first time bounds the edges that the row can carry (`edgesFitBetween`). -/
def execCoarseFrequencyCheck (lane : Lane) (edges : List EdgeRun) (_since time : Rat) (s : State) :
    Host.Outcome State Fault Refusal :=
  occurs (coarseFrequencyCheck lane edges time) s

/-- LOCK_ACQUIRED (R88). -/
def execLockAcquired (seen : PathEdges) (s : State) : Host.Outcome State Fault Refusal :=
  occurs (lockAcquired seen.lane seen.edges seen.time) s

/-- LOCK_WINDOW_END (R88). -/
def execLockWindowEnd (seen : PathEdges) (s : State) : Host.Outcome State Fault Refusal :=
  occurs (lockWindowEnd seen.lane seen.edges seen.time) s

/-- LOSS_OF_LOCK (R89). -/
def execLossOfLock (seen : PathEdges) (s : State) : Host.Outcome State Fault Refusal :=
  occurs (lossOfLock seen.lane seen.edges seen.time) s

/-- DISCARD_COMPLETE (R89). -/
def execDiscardComplete (seen : PathEdges) (s : State) : Host.Outcome State Fault Refusal :=
  occurs (discardComplete seen.lane seen.edges) s

/-- SAMPLE_COMPLETE (R90). The times bound the edges that the row can carry (`edgesFitBetween`). -/
def execSampleComplete (lane : Lane) (edges : List EdgeRun) (_since _time : Rat) (s : State) :
    Host.Outcome State Fault Refusal :=
  occurs (sampleComplete lane edges) s

/-- CHECK_CAPTURE_END (R105). -/
def execCheckCaptureEnd (lane : Lane) (s : State) : Host.Outcome State Fault Refusal :=
  occurs (checkCaptureEnd lane) s

/-- REDUCTION_END (R92). -/
def execReductionEnd (lane : Lane) (s : State) : Host.Outcome State Fault Refusal :=
  occurs (reductionEnd lane) s

/-- BUDGET_EXPIRY (R93). -/
def execBudgetExpiry (lane : Lane) (s : State) : Host.Outcome State Fault Refusal :=
  occurs (budgetExpiry lane) s

/-- HOLD_EXPIRY (R151). -/
def execHoldExpiry (lane : Lane) (s : State) : Host.Outcome State Fault Refusal :=
  occurs (holdExpiry lane) s

end Sys2Proof.Machine
end

