-- ==== Sys2Proof/Machine/Requests.lean ====
section
/-!
DEFINITION. The meaning of each request: its frame reaches the Link Port, which takes it as a request and
hands it to its owner (R179), or, where a frame that begins now is not received, deals with its bytes (log 2).
-/
namespace Sys2Proof.Machine

/-- A request command, which stops on no path. -/
def taken (setup : Bool) (i : Instr) (act : State → Response × State) (s : State) :
    Host.Outcome State Fault Refusal :=
  .next (request setup i act s)

/-- SITE_MODE (R17). -/
def execSiteMode (tag : Byte) (site : Nat) (enable autopower settle : Option Nat) (s : State) :
    Host.Outcome State Fault Refusal :=
  taken s.pins.setup (.siteMode tag site enable autopower settle) (reqSiteMode site enable autopower settle) s

/-- POWER_ON (R18). -/
def execPowerOn (tag : Byte) (site : Nat) (s : State) : Host.Outcome State Fault Refusal :=
  taken s.pins.setup (.powerOn tag site) (reqPowerOn site) s

/-- POWER_OFF (R19). -/
def execPowerOff (tag : Byte) (site : Nat) (s : State) : Host.Outcome State Fault Refusal :=
  taken s.pins.setup (.powerOff tag site) (reqPowerOff site) s

/-- CLEAR_SITE (R20). -/
def execClearSite (tag : Byte) (site : Nat) (s : State) : Host.Outcome State Fault Refusal :=
  taken s.pins.setup (.clearSite tag site) (reqClearSite site) s

/-- QUERY_SITES (R21). -/
def execQuerySites (tag : Byte) (s : State) : Host.Outcome State Fault Refusal :=
  taken s.pins.setup (.querySites tag) reqQuerySites s

/-- QUERY_TIMEBASE (R29). -/
def execQueryTimebase (tag : Byte) (s : State) : Host.Outcome State Fault Refusal :=
  taken s.pins.setup (.queryTimebase tag) reqQueryTimebase s

/-- QUERY_LANE (R40). -/
def execQueryLane (tag : Byte) (lane : Nat) (s : State) : Host.Outcome State Fault Refusal :=
  taken s.pins.setup (.queryLane tag lane) (reqQueryLane lane) s

/-- RECALIBRATE (R38). -/
def execRecalibrate (tag : Byte) (lane : Nat) (s : State) : Host.Outcome State Fault Refusal :=
  taken s.pins.setup (.recalibrate tag lane) (reqRecalibrate lane) s

/-- LANE_MODE_ENABLE (R39). -/
def execLaneModeEnable (tag : Byte) (lane : Nat) (s : State) : Host.Outcome State Fault Refusal :=
  taken s.pins.setup (.laneModeEnable tag lane) (reqLaneEnable lane) s

/-- LANE_MODE_DISABLE (R39). -/
def execLaneModeDisable (tag : Byte) (lane : Nat) (s : State) : Host.Outcome State Fault Refusal :=
  taken s.pins.setup (.laneModeDisable tag lane) (reqLaneDisable lane) s

/-- WRITE_PLAN (R51). -/
def execWritePlan (tag : Byte) (index : Nat) (plan : Plan) (s : State) : Host.Outcome State Fault Refusal :=
  taken s.pins.setup (.writePlan tag index plan) (reqWritePlan index plan) s

/-- ERASE_PLAN (R52). -/
def execErasePlan (tag : Byte) (index : Nat) (s : State) : Host.Outcome State Fault Refusal :=
  taken s.pins.setup (.erasePlan tag index) (reqErasePlan index) s

/-- READ_PLAN (R53). -/
def execReadPlan (tag : Byte) (index : Nat) (s : State) : Host.Outcome State Fault Refusal :=
  taken s.pins.setup (.readPlan tag index) (reqReadPlan index) s

/-- WRITE_LIMITS (R54). -/
def execWriteLimits (tag : Byte) (index : Nat) (entries : List LimitEntry) (s : State) :
    Host.Outcome State Fault Refusal :=
  taken s.pins.setup (.writeLimits tag index entries) (reqWriteLimits index entries) s

/-- ERASE_LIMITS (R55). -/
def execEraseLimits (tag : Byte) (index : Nat) (s : State) : Host.Outcome State Fault Refusal :=
  taken s.pins.setup (.eraseLimits tag index) (reqEraseLimits index) s

/-- READ_LIMITS (R56). -/
def execReadLimits (tag : Byte) (index : Nat) (s : State) : Host.Outcome State Fault Refusal :=
  taken s.pins.setup (.readLimits tag index) (reqReadLimits index) s

/-- PROTECT (R57). -/
def execProtect (tag : Byte) (boundary : Option Nat) (setup : Bool) (s : State) :
    Host.Outcome State Fault Refusal :=
  taken setup (.protect tag boundary setup) (reqProtect boundary) s

/-- MEASURE (R64). -/
def execMeasure (tag : Byte) (site plan : Nat) (s : State) : Host.Outcome State Fault Refusal :=
  taken s.pins.setup (.measure tag site plan) (reqMeasure site plan) s

/-- SCREEN (R65). -/
def execScreen (tag : Byte) (sites : BitVec 16) (plan : Nat) (s : State) : Host.Outcome State Fault Refusal :=
  taken s.pins.setup (.screen tag sites plan) (reqScreen sites plan) s

/-- CHECK_PATHS (R66). -/
def execCheckPaths (tag : Byte) (sites : BitVec 16) (lanes : BitVec 8) (s : State) :
    Host.Outcome State Fault Refusal :=
  taken s.pins.setup (.checkPaths tag sites lanes) (reqCheckPaths sites lanes) s

/-- CANCEL (R77). -/
def execCancel (tag : Byte) (selector value : Nat) (s : State) : Host.Outcome State Fault Refusal :=
  taken s.pins.setup (.cancel tag selector value) (reqCancel selector value) s

/-- PAUSE (R79). -/
def execPause (tag : Byte) (s : State) : Host.Outcome State Fault Refusal :=
  taken s.pins.setup (.pause tag) reqPause s

/-- RESUME (R79). -/
def execResume (tag : Byte) (s : State) : Host.Outcome State Fault Refusal :=
  taken s.pins.setup (.resume tag) reqResume s

/-- QUERY_QUEUE (R80). -/
def execQueryQueue (tag : Byte) (s : State) : Host.Outcome State Fault Refusal :=
  taken s.pins.setup (.queryQueue tag) reqQueryQueue s

/-- SNAPSHOT (R147). -/
def execSnapshot (tag : Byte) (lanes : BitVec 8) (s : State) : Host.Outcome State Fault Refusal :=
  taken s.pins.setup (.snapshot tag lanes) (reqSnapshot lanes) s

/-- READ_SNAPSHOT (R149). -/
def execReadSnapshot (tag : Byte) (lane : Nat) (s : State) : Host.Outcome State Fault Refusal :=
  taken s.pins.setup (.readSnapshot tag lane) (reqReadSnapshot lane) s

/-- READ_SAMPLES (R155). -/
def execReadSamples (tag : Byte) (lane start window follow : Nat) (s : State) :
    Host.Outcome State Fault Refusal :=
  taken s.pins.setup (.readSamples tag lane start window follow) (reqReadSamples lane start window follow) s

/-- NEXT (R157). -/
def execNext (s : State) : Host.Outcome State Fault Refusal :=
  taken s.pins.setup .nextBlock reqNext s

/-- RELEASE_LANE (R153). -/
def execReleaseLane (tag : Byte) (lane : Nat) (s : State) : Host.Outcome State Fault Refusal :=
  taken s.pins.setup (.releaseLane tag lane) (reqReleaseLane lane) s

/-- TAKE_COMPLETION (R138). -/
def execTakeCompletion (tag : Byte) (s : State) : Host.Outcome State Fault Refusal :=
  taken s.pins.setup (.takeCompletion tag) reqTakeCompletion s

/-- READ_RESULT (R139). -/
def execReadResult (tag : Byte) (handle : Nat) (s : State) : Host.Outcome State Fault Refusal :=
  taken s.pins.setup (.readResult tag handle) (reqReadResult handle) s

/-- FREE_RESULT (R140). -/
def execFreeResult (tag : Byte) (handle : Nat) (s : State) : Host.Outcome State Fault Refusal :=
  taken s.pins.setup (.freeResult tag handle) (reqFreeResult handle) s

/-- QUERY_PATHS (R171). -/
def execQueryPaths (tag : Byte) (site : Option Nat) (s : State) : Host.Outcome State Fault Refusal :=
  taken s.pins.setup (.queryPaths tag site) (reqQueryPaths site) s

/-- SET_CONFIG (R188). -/
def execSetConfig (tag : Byte) (setting value : Nat) (s : State) : Host.Outcome State Fault Refusal :=
  taken s.pins.setup (.setConfig tag setting value) (reqSetConfig setting value) s

/-- GET_CONFIG (R189). -/
def execGetConfig (tag : Byte) (setting : Nat) (s : State) : Host.Outcome State Fault Refusal :=
  taken s.pins.setup (.getConfig tag setting) (reqGetConfig setting) s

/-- READ_ALERTS (R186). -/
def execReadAlerts (tag : Byte) (s : State) : Host.Outcome State Fault Refusal :=
  taken s.pins.setup (.readAlerts tag) reqReadAlerts s

/-- RESTART (R182). -/
def execRestart (tag : Byte) (s : State) : Host.Outcome State Fault Refusal :=
  taken s.pins.setup (.restart tag) reqRestart s

/-- BAD_KIND_REQUEST (R179 step 3). -/
def execBadKind (kind : Byte) (rest : List Byte) (s : State) : Host.Outcome State Fault Refusal :=
  taken s.pins.setup (.badKindRequest kind rest) (fun x => (refuse .badKind, x)) s

end Sys2Proof.Machine
end

