-- ==== Sys2Proof/Machine/Dispatch.lean ====
section
/-!
DEFINITION. The meaning of every command, one arm for each constructor of Instr.
-/
namespace Sys2Proof.Machine

def exec (i : Instr) (s : State) : Host.Outcome State Fault Refusal :=
  match i with
  | .siteMode tag site enable autopower settle => Sys2Proof.Machine.execSiteMode tag site enable autopower settle s
  | .powerOn tag site => Sys2Proof.Machine.execPowerOn tag site s
  | .powerOff tag site => Sys2Proof.Machine.execPowerOff tag site s
  | .clearSite tag site => Sys2Proof.Machine.execClearSite tag site s
  | .querySites tag => Sys2Proof.Machine.execQuerySites tag s
  | .queryTimebase tag => Sys2Proof.Machine.execQueryTimebase tag s
  | .queryLane tag lane => Sys2Proof.Machine.execQueryLane tag lane s
  | .recalibrate tag lane => Sys2Proof.Machine.execRecalibrate tag lane s
  | .laneModeEnable tag lane => Sys2Proof.Machine.execLaneModeEnable tag lane s
  | .laneModeDisable tag lane => Sys2Proof.Machine.execLaneModeDisable tag lane s
  | .writePlan tag index plan => Sys2Proof.Machine.execWritePlan tag index plan s
  | .erasePlan tag index => Sys2Proof.Machine.execErasePlan tag index s
  | .readPlan tag index => Sys2Proof.Machine.execReadPlan tag index s
  | .writeLimits tag index entries => Sys2Proof.Machine.execWriteLimits tag index entries s
  | .eraseLimits tag index => Sys2Proof.Machine.execEraseLimits tag index s
  | .readLimits tag index => Sys2Proof.Machine.execReadLimits tag index s
  | .protect tag boundary setup => Sys2Proof.Machine.execProtect tag boundary setup s
  | .measure tag site plan => Sys2Proof.Machine.execMeasure tag site plan s
  | .screen tag sites plan => Sys2Proof.Machine.execScreen tag sites plan s
  | .checkPaths tag sites lanes => Sys2Proof.Machine.execCheckPaths tag sites lanes s
  | .cancel tag selector value => Sys2Proof.Machine.execCancel tag selector value s
  | .pause tag => Sys2Proof.Machine.execPause tag s
  | .resume tag => Sys2Proof.Machine.execResume tag s
  | .queryQueue tag => Sys2Proof.Machine.execQueryQueue tag s
  | .snapshot tag lanes => Sys2Proof.Machine.execSnapshot tag lanes s
  | .readSnapshot tag lane => Sys2Proof.Machine.execReadSnapshot tag lane s
  | .readSamples tag lane start window follow => Sys2Proof.Machine.execReadSamples tag lane start window follow s
  | .nextBlock => Sys2Proof.Machine.execNext s
  | .releaseLane tag lane => Sys2Proof.Machine.execReleaseLane tag lane s
  | .takeCompletion tag => Sys2Proof.Machine.execTakeCompletion tag s
  | .readResult tag handle => Sys2Proof.Machine.execReadResult tag handle s
  | .freeResult tag handle => Sys2Proof.Machine.execFreeResult tag handle s
  | .queryPaths tag site => Sys2Proof.Machine.execQueryPaths tag site s
  | .setConfig tag setting value => Sys2Proof.Machine.execSetConfig tag setting value s
  | .getConfig tag setting => Sys2Proof.Machine.execGetConfig tag setting s
  | .readAlerts tag => Sys2Proof.Machine.execReadAlerts tag s
  | .restart tag => Sys2Proof.Machine.execRestart tag s
  | .badKindRequest kind rest => Sys2Proof.Machine.execBadKind kind rest s
  | .receiveByte byte setup => Sys2Proof.Machine.execReceiveByte byte setup s
  | .gapExpiry => Sys2Proof.Machine.execGapExpiry s
  | .replyComplete => Sys2Proof.Machine.execReplyComplete s
  | .restartIssue => Sys2Proof.Machine.execRestartIssue s
  | .restartBusyWindowEnd => Sys2Proof.Machine.execRestartBusyWindowEnd s
  | .resetAssert => Sys2Proof.Machine.execResetAssert s
  | .resetEnd contact rate => Sys2Proof.Machine.execResetEnd contact rate s
  | .serviceTick contact supplyFlt order => Sys2Proof.Machine.execServiceTick contact supplyFlt order s
  | .contactRise site => Sys2Proof.Machine.execContactRise site s
  | .contactFall site => Sys2Proof.Machine.execContactFall site s
  | .supplyFaultTrip site => Sys2Proof.Machine.execSupplyFaultTrip site s
  | .settleExpiry site => Sys2Proof.Machine.execSettleExpiry site s
  | .quietExpiry quad => Sys2Proof.Machine.execQuietExpiry quad s
  | .checkIntervalEnd edges => Sys2Proof.Machine.execCheckIntervalEnd edges s
  | .calCounterExpiry lane => Sys2Proof.Machine.execCalCounterExpiry lane s
  | .quietTimeCalibration lane => Sys2Proof.Machine.execQuietTimeCalibration lane s
  | .calibrationComplete lane gain spread => Sys2Proof.Machine.execCalibrationComplete lane gain spread s
  | .lanePairing => Sys2Proof.Machine.execLanePairing s
  | .attachEnd lane => Sys2Proof.Machine.execAttachEnd lane s
  | .noSignalWindowEnd lane edges => Sys2Proof.Machine.execNoSignalWindowEnd lane edges s
  | .coarseFrequencyCheck lane edges since time => Sys2Proof.Machine.execCoarseFrequencyCheck lane edges since time s
  | .lockAcquired seen => Sys2Proof.Machine.execLockAcquired seen s
  | .lockWindowEnd seen => Sys2Proof.Machine.execLockWindowEnd seen s
  | .lossOfLock seen => Sys2Proof.Machine.execLossOfLock seen s
  | .discardComplete seen => Sys2Proof.Machine.execDiscardComplete seen s
  | .sampleComplete lane edges since time => Sys2Proof.Machine.execSampleComplete lane edges since time s
  | .checkCaptureEnd lane => Sys2Proof.Machine.execCheckCaptureEnd lane s
  | .reductionEnd lane => Sys2Proof.Machine.execReductionEnd lane s
  | .budgetExpiry lane => Sys2Proof.Machine.execBudgetExpiry lane s
  | .holdExpiry lane => Sys2Proof.Machine.execHoldExpiry lane s

end Sys2Proof.Machine
end

