-- ==== Sys2Proof/Safety.lean ====
section
/-!
DEFINITION. The words that statements about the part are made in: when a request is taken and what its answer
leaves, the stop that no step makes, and the invariants of the records, each from the rule it cites.
-/
namespace Sys2Proof.Machine

/-! ### Requests -/

/-- A request that comes now is taken and handed to its owner: the Link Port listens and the restart busy window
is not running (R178, R179, R182). -/
abbrev Takes (s : State) : Prop := listening s = true ∧ s.link.busy.left = 0

/-- The state with a reply pending and the receiver in HUNT; nothing else differs (R178, R180). -/
def replied (kind tag : Byte) (x : Status) (data : ReplyData) (s : State) : State :=
  { s with link := { s.link with
      receiver := .hunt, gap := .idle, reply := some (.answer kind tag x data) } }

/-- The state with the reply of a request other than NEXT pending: the follow context has ended too (R158). -/
def answered (kind tag : Byte) (x : Status) (data : List Byte) (s : State) : State :=
  replied kind tag x (.single data) (setFollow none s)

/-- The same for a reply that is sent as a run of segments (R198). -/
def answeredSegments (kind tag : Byte) (data : List (List Byte)) (s : State) : State :=
  replied kind tag .ok (.segments data) (setFollow none s)

/-- The level of SETUP that a request's frame meets: PROTECT's operand, else the level last sampled. -/
def setupAt (i : Instr) (s : State) : Bool :=
  match i with
  | .protect _ _ level => level
  | _ => s.pins.setup

/-- The command is a request: it has a body (R194). -/
def isRequest (i : Instr) : Bool := !(requestBody i).isEmpty

/-! ### No stop -/

/-- The part goes on from a state: a step answers a next state. -/
def GoesOn (s : State) : Prop := ∃ t, step s = .next t

/-! ### Invariants -/

/-- The supply of a site is ON exactly in SETTLING and READY (R2). -/
def SupplyFollowsState (s : State) : Prop :=
  ∀ i, (s.site i).supply = true ↔ (s.site i).state = .settling ∨ (s.site i).state = .ready

/-- Settle remaining is 0 outside SETTLING, and attached kind is present exactly when attached lane is (R1). -/
def SiteFieldsAgree (s : State) : Prop :=
  ∀ i, ((s.site i).state ≠ .settling → (s.site i).settle = .idle)
    ∧ (s.site i).attachedLane.isSome = (s.site i).attachedKind.isSome

/-- VACANT has no contact; SEATED, POWER_PENDING, SETTLING and READY have it (R2). -/
def ContactFitsState (s : State) : Prop :=
  ∀ i, match (s.site i).state with
    | .vacant => (s.site i).contact = false
    | .seated | .powerPending | .settling | .ready => (s.site i).contact = true
    | .disabled | .fault => True

/-- A deferred switch-on waits for an attachment of its quad (R6, R8). -/
def PendingQuadIsAttached (s : State) : Prop := ∀ q, quadPending s q = true → quadAttached s q = true

/-- The due count is at most 3, the consecutive failures at most 2, and a lane with due count 3 neither
measures nor idles (R31, R34). -/
def DueCountBounded (s : State) : Prop :=
  ∀ l, (s.lane l).owed ≤ 3 ∧ (s.lane l).calFails ≤ 2
    ∧ ((s.lane l).owed = 3 → isMeasuring (s.lane l).state = false ∧ (s.lane l).state ≠ .idle)

/-- Hold remaining is 0 while no hold is set; a held lane is neither measuring nor DISABLED and its ring content
is present (R150). -/
def HoldFitsLane (s : State) : Prop :=
  ∀ l, ((s.lane l).hold = false → (s.lane l).holdLeft = .idle)
    ∧ ((s.lane l).hold = true →
        isMeasuring (s.lane l).state = false ∧ (s.lane l).state ≠ .disabled ∧ (s.lane l).ring.isSome = true)

/-- Samples captured is at least 1 exactly when the ring content, and with it the accumulators, are present; the
ring holds the latest of them, at most 4,096 (R91, R144). -/
def RingFitsCount (s : State) : Prop :=
  ∀ l, match (s.lane l).ring with
    | none => (s.lane l).captured = 0 ∧ (s.lane l).acc = none
    | some r => 1 ≤ (s.lane l).captured ∧ (s.lane l).acc.isSome = true
        ∧ r.samples.length = min 4096 (s.lane l).captured ∧ r.first + r.samples.length = (s.lane l).captured

/-- Progress reads 0 in ABSENT and 200 in LOCKED, below 200 in QUALIFYING, and the tick comes from REFIN exactly
in LOCKED (R26, R28, R29). -/
def ReferenceAgrees (s : State) : Prop :=
  match s.ref.state with
  | .absent => s.ref.progress = 0 ∧ s.ref.source = .backup
  | .qualifying => s.ref.progress < 200 ∧ s.ref.source = .backup
  | .locked => s.ref.progress = 200 ∧ s.ref.source = .refin

/-- A lane measures, calibrates or idles only under a LOCKED reference (R37, R38). -/
def LanesNeedReference (s : State) : Prop :=
  ∀ l, match (s.lane l).state with
    | .disabled | .faulted | .uncalibrated => True
    | _ => s.ref.state = .locked

/-- Every setting lies in its range, with FLOOR_GOOD at most FLOOR_MARGINAL (R22, R41, R154, R169). -/
def SettingsInRange (s : State) : Prop :=
  let x := s.link.settings
  1000 ≤ x.calPeriod ∧ x.calPeriod ≤ 60000 ∧ x.quietWindow ≤ 500 ∧ 1 ≤ x.debounce ∧ x.debounce ≤ 50
    ∧ 100 ≤ x.holdLimit ∧ x.holdLimit ≤ 60000 ∧ 1 ≤ x.floorGood ∧ x.floorGood ≤ x.floorMarginal
    ∧ x.floorMarginal ≤ 100000

/-- Every DEFINED plan is valid under the CAL_PERIOD of the table, and every DEFINED limit set is valid (R41,
R46, R48). -/
def StoredPlansValid (s : State) : Prop :=
  (∀ p r, s.plan p = some r → planValid s.link.settings.calPeriod r = true)
    ∧ ∀ x l, s.limitSet x = some l → limitsValid l = true

/-- An UNCHECKED path has no floor, tick or count; a checked one has a tick and a count of 1 to 255; a GOOD or
MARGINAL one has a TIE floor (R161, R165, R166). -/
def PathEntriesAgree (s : State) : Prop :=
  ∀ i l, let e := s.path i l
    match e.rating with
    | .unchecked => e.floors = .none ∧ e.lastCheck = none ∧ e.checks = 0
    | .good | .marginal => e.floors.tie.isSome = true ∧ e.lastCheck.isSome = true ∧ 1 ≤ e.checks ∧ e.checks ≤ 255
    | .bad => e.lastCheck.isSome = true ∧ 1 ≤ e.checks ∧ e.checks ≤ 255

/-- No reply is pending while a frame is being received, the gap countdown does not run in HUNT, and a restart
is owed only while its reply is pending (R174, R175, R178, R182). -/
def LinkAgrees (s : State) : Prop :=
  (match s.link.receiver with
    | .hunt => s.link.gap = .idle
    | .swallow _ => True
    | .length | .body _ _ | .check _ | .drain => s.link.reply = none)
    ∧ (s.link.restartOwed = true → s.link.reply.isSome = true)

/-- A mask names a lane or a site only while its alert's flag is set (R184). -/
def MasksHaveFlags (s : State) : Prop :=
  (s.link.alerts.laneFaulted ≠ 0 → s.alertSet .laneFaulted = true)
    ∧ (s.link.alerts.supplyFault ≠ 0 → s.alertSet .supplyFault = true)
    ∧ (s.link.alerts.holdExpired ≠ 0 → s.alertSet .holdExpired = true)

/-- At most 32 jobs are listed, with distinct ids and distinct handles, and the RESERVED slots are exactly those
of the listed jobs (R61, R62). -/
def SlotsFitJobs (s : State) : Prop :=
  s.jobs.length ≤ 32 ∧ (s.jobs.map (·.id)).Nodup ∧ (s.jobs.map (·.handle)).Nodup
    ∧ ∀ h, (s.slot h).isReserved = true ↔ ∃ j ∈ s.jobs, j.handle = h

/-- Two entries for one site are CHECK entries for different lanes (R61). -/
def EntriesFitSites (s : State) : Prop :=
  s.jobs.Pairwise fun a b => a.site = b.site → ∃ x y, a.work = .check x ∧ b.work = .check y ∧ x ≠ y

/-- The slot is FILLED (R124). -/
def Slot.isFilled : Slot → Bool
  | .filled _ => true
  | _ => false

/-- The completion queue holds exactly the handles of the FILLED slots, each once (R136). -/
def QueueNamesFilled (s : State) : Prop :=
  s.results.queue.Nodup ∧ ∀ h, h ∈ s.results.queue ↔ (s.slot h).isFilled = true

/-- A lane has a site and a job exactly in the measuring states; lanes and sites name each other; a listed job is
RUNNING on a lane exactly when the lane names it, and the lane then has the job's site and kind (R9, R61, R71,
R84). -/
def AttachmentsAgree (s : State) : Prop :=
  (∀ l, (s.lane l).run.site.isSome = isMeasuring (s.lane l).state
      ∧ (s.lane l).run.jobId.isSome = isMeasuring (s.lane l).state)
    ∧ (∀ l i, (s.lane l).run.site = some i ↔ (s.site i).attachedLane = some l)
    ∧ (∀ j ∈ s.jobs, ∀ l, j.running = some l ↔ (s.lane l).run.jobId = some j.id)
    ∧ ∀ l id, (s.lane l).run.jobId = some id →
        ∃ j ∈ s.jobs, j.id = id ∧ (s.lane l).run.site = some j.site ∧ (s.lane l).run.kind = some j.work.kind

/-- A step from a state with a property answers only states with it. -/
def Kept (inv : State → Prop) : Prop := ∀ s t, inv s → step s = .next t → inv t

end Sys2Proof.Machine
end

