-- ==== Sys2Proof/Certificates/Slice0/Obligations.lean ====
section
/-!
DEFINITION. The statements for the provers. A request statement holds for every state in which the request is
taken (`Takes`), and its conclusion is the whole next state, so that what it does not name is unchanged. Replies
are in the words of Safety.lean: `answered kind tag status data s` is `s` with its follow context ended and the
reply pending.
-/
section

open Sys2Proof Sys2Proof.Machine

/-! ### The machine -/

/-- A step runs the command at the front of the queue on the state with the queue's rest. The queue is the model's
own (log 1). -/
def Obligations.StepRunsFrontCommand : Prop :=
  ∀ (s : State) (c : Instr) (rest : List Instr),
    step { s with pending := c :: rest } = exec c { s with pending := rest }

/-- On an empty queue the part idles (the queue and the idling are the model's own, log 1), and no step stops: from
every state a step answers a next state. The spec names nothing that stops the part. -/
def Obligations.NoStepStops : Prop :=
  (∀ s : State, step { s with pending := [] } = .next { s with pending := [] })
  ∧ ∀ s : State, GoesOn s

/-- What every record holds after the end of a reset, by the reset tables of the eight blocks: RESET_END from the
held part, with the CONTACT levels and the rate sampled there (R23, R30, R42, R59, R81, R107, R142, R159, R172,
R183). -/
def Obligations.ResetEndValues : Prop :=
  ∀ (s : State) (contact : BitVec 16) (rate : BitVec 2), s.pins.resetn = false →
    ∃ t, exec (.resetEnd contact rate) s = .next t
      ∧ (∀ i : Site,
          (t.site i).contact = contact.getLsbD i.val ∧ (t.site i).run = 0
            ∧ (t.site i).state = (if contact.getLsbD i.val then .seated else .vacant)
            ∧ (t.site i).supply = false ∧ (t.site i).autopower = false ∧ (t.site i).settleTicks = 100
            ∧ (t.site i).settle.left = 0 ∧ (t.site i).attachedLane = none ∧ (t.site i).attachedKind = none
            ∧ (t.site i).lastBin = none ∧ (t.site i).lastJobId = none
            ∧ (t.site i).completed = 0 ∧ (t.site i).faults = 0)
      ∧ (∀ q : Quad, (t.quietOf q).left = 0)
      ∧ (t.ref.state = .absent ∧ t.ref.progress = 0 ∧ t.ref.lastCheck = 0 ∧ t.ref.source = .backup
          ∧ t.ref.tick = 0)
      ∧ (∀ p, t.plan p = none) ∧ (∀ x, t.limitSet x = none) ∧ t.store.boundary = 0
      ∧ (t.jobs = [] ∧ t.jc.paused = false ∧ t.jc.lastJobId = 0 ∧ t.jc.lastBatchId = 0)
      ∧ (∀ l : Lane,
          (t.lane l).state = .uncalibrated ∧ (t.lane l).calCounter.left = 0 ∧ (t.lane l).owed = 0
            ∧ (t.lane l).calLeft.left = 0 ∧ (t.lane l).calFails = 0 ∧ (t.lane l).lastCal = none
            ∧ (t.lane l).run = RunState.idle ∧ (t.lane l).captured = 0 ∧ (t.lane l).acc = none
            ∧ (t.lane l).ring = none ∧ (t.lane l).memory = [] ∧ (t.lane l).hold = false
            ∧ (t.lane l).holdLeft.left = 0 ∧ (t.lane l).latch = none)
      ∧ (∀ h, t.slot h = .free) ∧ t.results.queue = []
      ∧ (∀ i l, t.path i l = ⟨.unchecked, ⟨none, none, none, none⟩, none, 0⟩)
      ∧ (t.link.receiver = .hunt ∧ t.link.gap.left = 0 ∧ t.link.reply = none ∧ t.link.busy.left = 0
          ∧ t.link.follow = none ∧ t.link.alerts = ⟨1, 0, 0, 0⟩
          ∧ t.link.settings = ⟨10000, 20, 5, 5000, 80, 200, false, 0x3F⟩ ∧ t.link.rate = rate)
      ∧ t.pins.resetn = true ∧ attn t = true ∧ t.pending = s.pending

/-- RESETn falling takes the part to the held state: no reply, no alert, ATTN released, every supply OFF; and while
it is held every request, every byte and every event but the end of reset is without effect (R23, R183). The values
of the records while RESETn is held are the model's choice (log 9). -/
def Obligations.ResetHeld : Prop :=
  (∀ s : State, ∃ t, exec .resetAssert s = .next t ∧ t.pins.resetn = false ∧ attn t = false
      ∧ txd t = [] ∧ (∀ i, supplyEn t i = false) ∧ (∀ i, injectionClosed t i = false)
      ∧ t.pending = s.pending)
    ∧ ∀ (s : State) (i : Instr), s.pins.resetn = false → (∀ c r, i ≠ .resetEnd c r) → i ≠ .resetAssert →
        exec i s = .next s

/-- All invariants of Safety.lean hold at reset. -/
def Obligations.InvariantsHoldAtReset : Prop :=
  SupplyFollowsState State.reset ∧ SiteFieldsAgree State.reset ∧ ContactFitsState State.reset
    ∧ PendingQuadIsAttached State.reset ∧ DueCountBounded State.reset ∧ HoldFitsLane State.reset
    ∧ RingFitsCount State.reset ∧ ReferenceAgrees State.reset ∧ LanesNeedReference State.reset
    ∧ SettingsInRange State.reset ∧ StoredPlansValid State.reset ∧ PathEntriesAgree State.reset
    ∧ LinkAgrees State.reset ∧ MasksHaveFlags State.reset ∧ SlotsFitJobs State.reset
    ∧ EntriesFitSites State.reset ∧ QueueNamesFilled State.reset ∧ AttachmentsAgree State.reset

/-! ### The link -/

/-- Every well-formed request reads back from its body as itself, every operand at every value its field admits; a
body whose first byte is no request kind is BAD_KIND (R179, R192, R194, R195). -/
def Obligations.RequestsReadBack : Prop :=
  ∀ (i : Instr) (s : State), WellFormed i = true → isRequest i = true →
    match i with
    | .badKindRequest _ _ => readBody (setupAt i s) (requestBody i) = .error .badKind
    | _ => readBody (setupAt i s) (requestBody i) = .ok i

/-- A request command is its frame: whatever the state of the part and of the receiver, the command does what the
bytes of its frame do one after another (R174 to R179; log 2). -/
def Obligations.RequestIsItsFrame : Prop :=
  ∀ (i : Instr) (s : State), WellFormed i = true → isRequest i = true →
    exec i s = .next (feed (setupAt i s) (frameOf (requestBody i)) s)

/-- In the restart busy window every request is answered BUSY and reaches no owner; a request other than NEXT ends
the follow context all the same (R179 steps 1 and 2, R182). That a body of no request kind is answered BUSY there too,
its reply kind being its first byte with the top bit set, and that a reply to NEXT carries the tag 0, is the model's
reading (log 12). A body whose first byte is no request kind is answered
BAD_KIND with the reply kind 0xFE, its tag the second byte or 0, and nothing else changes but the follow context
(R179 step 3, R180, R191). -/
def Obligations.LinkRefusals : Prop :=
  (∀ (i : Instr) (s : State), WellFormed i = true → isRequest i = true → listening s = true →
     0 < s.link.busy.left →
     let u := setSetup (setupAt i s) s
     exec i s = .next (replied ((requestBody i).headD 0 ||| 0x80) (bodyTag (requestBody i)) .busy (.single [])
       (if i = .nextBlock then u else setFollow none u)))
  ∧ ∀ (s : State) (kind : Byte) (rest : List Byte), Takes s → WellFormed (.badKindRequest kind rest) = true →
      exec (.badKindRequest kind rest) s = .next (answered 0xFE (rest.headD 0) .badKind [] s)

/-- A byte in each receiver state (R174, R176, R177, R178): HUNT drops all but the sync value, which starts a frame,
or a swallowed frame with LINK_ERROR while a reply is pending; LENGTH takes 1 to 240 and drains on any other value;
a body byte is added; a wrong check byte is NAK CHECK with LINK_ERROR; DRAIN drops. A byte loads the gap countdown with
5 (R175), but for one that takes the receiver to HUNT, in which the countdown stands at 0: that, with the expiry clause
for HUNT, is the model's reading (log 11). The gap countdown's expiry (R175, R176): NAK GAP from LENGTH, BODY and
CHECK and NAK LENGTH from DRAIN, each with LINK_ERROR; from SWALLOW nothing is sent; the receiver is in HUNT after
each. -/
def Obligations.ReceiverTakesBytes : Prop :=
  (∀ (s : State) (b : Byte) (level : Bool), s.pins.resetn = true →
     let u := setSetup level s
     let go (x : Receiver) : State := { u with link := { u.link with receiver := x, gap := ⟨5, false⟩ } }
     match s.link.receiver with
     | .hunt =>
       (b ≠ 0xC3 → exec (.receiveByte b level) s = .next u)
         ∧ (b = 0xC3 → s.link.reply = none → exec (.receiveByte b level) s = .next (go .length))
         ∧ (b = 0xC3 → s.link.reply ≠ none →
             exec (.receiveByte b level) s = .next (raiseAlert .linkError (go (.swallow .length))))
     | .length =>
       (1 ≤ b.toNat ∧ b.toNat ≤ 240 → exec (.receiveByte b level) s = .next (go (.body b.toNat [])))
         ∧ (b.toNat = 0 ∨ 241 ≤ b.toNat → exec (.receiveByte b level) s = .next (go .drain))
     | .body n got =>
       (got.length + 1 < n → exec (.receiveByte b level) s = .next (go (.body n (got ++ [b]))))
         ∧ (got.length + 1 = n → exec (.receiveByte b level) s = .next (go (.check (got ++ [b]))))
     | .check body =>
       b ≠ crc8 (BitVec.ofNat 8 body.length :: body) →
         exec (.receiveByte b level) s = .next (raiseAlert .linkError
           { u with link := { u.link with receiver := .hunt, gap := ⟨0, false⟩, reply := some (.nak .check) } })
     | .drain => exec (.receiveByte b level) s = .next (go .drain)
     | .swallow .length =>
       (1 ≤ b.toNat ∧ b.toNat ≤ 240 →
           exec (.receiveByte b level) s = .next (go (.swallow (.bytes (b.toNat + 1)))))
         ∧ (b.toNat = 0 ∨ 241 ≤ b.toNat → exec (.receiveByte b level) s = .next (go (.swallow .untilGap)))
     | .swallow (.bytes n) =>
       (2 ≤ n → exec (.receiveByte b level) s = .next (go (.swallow (.bytes (n - 1)))))
         ∧ (n = 1 → exec (.receiveByte b level) s =
             .next { u with link := { u.link with receiver := .hunt, gap := ⟨0, false⟩ } })
     | .swallow .untilGap => exec (.receiveByte b level) s = .next (go (.swallow .untilGap)))
  ∧ ∀ s : State, s.pins.resetn = true → s.link.gap.due = true →
      let hunting (r : Option Reply) : State :=
        { s with link := { s.link with receiver := .hunt, gap := ⟨0, false⟩, reply := r } }
      match s.link.receiver with
      | .length | .body _ _ | .check _ =>
        exec .gapExpiry s = .next (raiseAlert .linkError (hunting (some (.nak .gap))))
      | .drain => exec .gapExpiry s = .next (raiseAlert .linkError (hunting (some (.nak .length))))
      | .swallow _ | .hunt => exec .gapExpiry s = .next (hunting s.link.reply)

/-- Raising an alert sets its flag and keeps the others, and nothing but the flags changes. A masked alert sets its
flag, adds its lane or site to its own mask and keeps the rest of that mask; the two other masks, and all else, stay as
they were (R184). ATTN is asserted exactly while a completion is pending or a set flag is enabled by ALERT_MASK, and is
released while RESETn is held (R137, R183, R185). -/
def Obligations.AlertsSetAndShown : Prop :=
  (∀ (s : State) (a b : Alert),
     let x := s.link.alerts
     let put (y : Alerts) : State := { s with link := { s.link with alerts := y } }
     ((raiseAlert a s).alertSet b = (s.alertSet b || a == b))
     ∧ raiseAlert a s = put { x with flags := (raiseAlert a s).link.alerts.flags }
     ∧ (∀ l m : Lane,
         let f := raiseLaneFaulted l s
         let h := raiseHoldExpired l s
         f.link.alerts.laneFaulted.getLsbD m.val = (x.laneFaulted.getLsbD m.val || l == m)
         ∧ f.alertSet b = (s.alertSet b || b == .laneFaulted)
         ∧ f = put { x with flags := f.link.alerts.flags, laneFaulted := f.link.alerts.laneFaulted }
         ∧ h.link.alerts.holdExpired.getLsbD m.val = (x.holdExpired.getLsbD m.val || l == m)
         ∧ h.alertSet b = (s.alertSet b || b == .holdExpired)
         ∧ h = put { x with flags := h.link.alerts.flags, holdExpired := h.link.alerts.holdExpired })
     ∧ ∀ i k : Site,
         let f := raiseSupplyFault i s
         f.link.alerts.supplyFault.getLsbD k.val = (x.supplyFault.getLsbD k.val || i == k)
         ∧ f.alertSet b = (s.alertSet b || b == .supplyFault)
         ∧ f = put { x with flags := f.link.alerts.flags, supplyFault := f.link.alerts.supplyFault })
  ∧ ∀ s : State, attn s = true ↔ s.pins.resetn = true
      ∧ (s.results.queue ≠ [] ∨ ∃ a : Alert, s.alertSet a = true ∧ s.link.settings.alertMask.getLsbD a.bit = true)

/-- READ ALERTS reports the six flags and the three masks as they stand and clears them all (R186, R194). -/
def Obligations.ReadAlertsReportsAndClears : Prop :=
  ∀ (s : State) (tag : Byte), Takes s →
    let a := s.link.alerts
    exec (.readAlerts tag) s = .next (answered 0xBE tag .ok
      (be8 a.flags.toNat ++ be8 a.laneFaulted.toNat ++ be16 a.supplyFault.toNat ++ be8 a.holdExpired.toNat)
      { s with link := { s.link with alerts := ⟨0, 0, 0, 0⟩ } })

/-- RESTART is accepted with OK and no data, and acts only when that reply has been sent: taking it changes nothing
but what it owes (R182). The end of a reply. A reply that owes no restart is simply gone. One that owes it issues
the restart in that change, as RESTART_ISSUE alone does (log 10): jobs, slots and completions are emptied, no hold
or latch is left, each measuring lane is IDLE with its ring and accumulators kept, sites are unattached and powered
or pending ones go to SEATED or VACANT with their supply OFF, the quiet countdown restarts in the quads that were
powered, RESTARTED alone is raised, and the busy window is 10; the reference, plans, paths, settings, pause flag and
ids are kept (R24, R42, R82, R108, R143, R160, R173, R178, R182, R190). -/
def Obligations.RestartTakesEffect : Prop :=
  (∀ (s : State) (tag : Byte), Takes s →
     exec (.restart tag) s = .next (answered 0xBF tag .ok []
       { s with link := { s.link with restartOwed := true } }))
  ∧ ∀ s : State, s.pins.resetn = true →
      (s.link.restartOwed = false →
        exec .replyComplete s = .next { s with link := { s.link with reply := none } }
          ∧ exec .restartIssue s = .next s)
      ∧ (s.link.restartOwed = true → ∃ t,
          exec .replyComplete s = .next t ∧ exec .restartIssue s = .next t
            ∧ t.jobs = [] ∧ t.jc = { s.jc with jobs := [] } ∧ (∀ h, t.slot h = .free) ∧ t.results.queue = []
            ∧ (∀ l, t.lane l =
                { s.lane l with
                  state := if isMeasuring (s.lane l).state then .idle else (s.lane l).state
                  run := if isMeasuring (s.lane l).state then RunState.idle else (s.lane l).run
                  hold := false
                  holdLeft := ⟨0, false⟩
                  latch := none })
            ∧ (∀ i, t.site i =
                let r := { s.site i with attachedLane := none, attachedKind := none }
                match (s.site i).state with
                | .settling | .ready | .powerPending =>
                  { r with supply := false, state := if (s.site i).contact then .seated else .vacant,
                           settle := ⟨0, false⟩, tripDue := false }
                | _ => r)
            ∧ (∀ q, t.quietOf q =
                if (∃ i, quadOf i = q ∧ (s.site i).supply = true) then ⟨s.link.settings.quietWindow, false⟩
                else s.quietOf q)
            ∧ t.link = { s.link with reply := none, restartOwed := false, busy := ⟨10, false⟩, follow := none,
                                     alerts := ⟨1, 0, 0, 0⟩ }
            ∧ t.ref = s.ref ∧ t.store = s.store ∧ t.paths = s.paths ∧ t.pins = s.pins ∧ t.pending = s.pending
            ∧ t.laneOrder = s.laneOrder ∧ t.free = s.free)

/-! ### Sites -/

/-- SITE MODE (R17): a field out of range is BAD_FIELD; a DISABLE that the site's state or attachment does not admit
is STATE, and nothing is applied; else the fields present are applied together, the site's move into VACANT or
DISABLED is announced, and the reply carries the state after the request. The announcement's own effect is
AnnouncedSiteEndsItsJobs. -/
def Obligations.SiteModeApplies : Prop :=
  ∀ (s : State) (tag : Byte) (site : Nat) (enable autopower settle : Option Nat), Takes s →
    let c : Instr := .siteMode tag site enable autopower settle
    let bad := 16 ≤ site ∨ (∃ n ∈ enable, 2 ≤ n) ∨ (∃ n ∈ autopower, 2 ≤ n) ∨ ∃ n ∈ settle, n < 1 ∨ 5000 < n
    (bad → exec c s = .next (answered 0x81 tag .badField [] s))
    ∧ (¬ bad → ∀ i : Site, i.val = site →
        let r := s.site i
        let held := r.state = .powerPending ∨ r.state = .settling ∨ r.state = .ready
          ∨ (r.state ≠ .disabled ∧ r.attachedLane ≠ none)
        let x : SiteState :=
          if enable = some 0 then .disabled
          else if enable = some 1 ∧ r.state = .disabled then (if r.contact then .seated else .vacant)
          else r.state
        (enable = some 0 ∧ held → exec c s = .next (answered 0x81 tag .state [] s))
        ∧ (¬ (enable = some 0 ∧ held) →
            let u := (setFollow none s).modSite i fun r => { r with state := x }
            let v := if x ≠ r.state ∧ (x = .vacant ∨ x = .disabled) then announce i u else u
            exec c s = .next (replied 0x81 tag .ok (.single (be8 x.code)) (v.modSite i fun r =>
              { r with autopower := (autopower.map (· == 1)).getD r.autopower
                       settleTicks := settle.getD r.settleTicks }))))

/-- POWER ON (R18, with the claim rule of R6): SEATED is switched on at once in a quad with no attached site and
deferred in one with; POWER_PENDING, SETTLING and READY answer DONE; the other states refuse STATE; a site above 15
is BAD_FIELD. A switch-on of one site (R7, R12): the site is
powered and SETTLING with its settle ticks loaded, the quad's quiet countdown is QUIET_WINDOW, the other SETTLING
sites of the quad are loaded in full, and nothing else changes. -/
def Obligations.PowerOnByState : Prop :=
  (∀ (s : State) (tag : Byte) (site : Nat), Takes s →
     (16 ≤ site → exec (.powerOn tag site) s = .next (answered 0x82 tag .badField [] s))
     ∧ ∀ i : Site, i.val = site →
       match (s.site i).state with
       | .seated =>
         (quadAttached s (quadOf i) = false →
           exec (.powerOn tag site) s = .next (replied 0x82 tag .ok (.single [0])
             (switchOn (quadOf i) [i] (setFollow none s))))
         ∧ (quadAttached s (quadOf i) = true →
           exec (.powerOn tag site) s = .next (answered 0x82 tag .ok [1]
             (s.modSite i fun r => { r with state := .powerPending })))
       | .powerPending | .settling | .ready =>
         exec (.powerOn tag site) s = .next (answered 0x82 tag .ok [2] s)
       | .vacant | .disabled | .fault => exec (.powerOn tag site) s = .next (answered 0x82 tag .state [] s))
  ∧ ∀ (s : State) (i : Site),
      let t := switchOn (quadOf i) [i] s
      t.site i = { s.site i with supply := true, state := .settling, settle := ⟨(s.site i).settleTicks, false⟩ }
      ∧ t.quietOf (quadOf i) = ⟨s.link.settings.quietWindow, false⟩
      ∧ (∀ k, k ≠ i → t.site k =
          if quadOf k = quadOf i ∧ (s.site k).state = .settling then
            { s.site k with settle := ⟨(s.site k).settleTicks, false⟩ }
          else s.site k)
      ∧ (∀ q, q ≠ quadOf i → t.quietOf q = s.quietOf q)
      ∧ t = { s with sites := t.sites, quiet := t.quiet }

/-- POWER OFF (R19): a powered site is switched off into SEATED by a quad switch event of cause POWER_OFF; a pending
claim is withdrawn without one; in every other state DONE; a site above 15 is BAD_FIELD. CLEAR SITE (R20): only in
FAULT, to SEATED or VACANT by the contact, the entry into VACANT announced; else STATE; a site above 15 is
BAD_FIELD. -/
def Obligations.PowerOffAndClearSite : Prop :=
  (∀ (s : State) (tag : Byte) (site : Nat), Takes s →
     (16 ≤ site → exec (.powerOff tag site) s = .next (answered 0x82 tag .badField [] s))
     ∧ ∀ i : Site, i.val = site →
       match (s.site i).state with
       | .settling | .ready =>
         exec (.powerOff tag site) s = .next (replied 0x82 tag .ok (.single [0])
           (quadEvent (quadOf i) [i] .powerOff ((setFollow none s).modSite i fun r =>
             { r with supply := false, state := .seated, settle := ⟨0, false⟩, tripDue := false })))
       | .powerPending =>
         exec (.powerOff tag site) s = .next (answered 0x82 tag .ok [2]
           (s.modSite i fun r => { r with state := .seated }))
       | .disabled | .vacant | .seated | .fault =>
         exec (.powerOff tag site) s = .next (answered 0x82 tag .ok [2] s))
  ∧ ∀ (s : State) (tag : Byte) (site : Nat), Takes s →
      (16 ≤ site → exec (.clearSite tag site) s = .next (answered 0x83 tag .badField [] s))
      ∧ ∀ i : Site, i.val = site →
        ((s.site i).state ≠ .fault → exec (.clearSite tag site) s = .next (answered 0x83 tag .state [] s))
        ∧ ((s.site i).state = .fault → (s.site i).contact = true →
            exec (.clearSite tag site) s = .next (answered 0x83 tag .ok [2]
              (s.modSite i fun r => { r with state := .seated })))
        ∧ ((s.site i).state = .fault → (s.site i).contact = false →
            exec (.clearSite tag site) s = .next (replied 0x83 tag .ok (.single [1])
              (announce i ((setFollow none s).modSite i fun r => { r with state := .vacant }))))

/-! ### Queries that change nothing -/

/-- QUERY TIMEBASE carries reference state, tick source, tick count, progress and last check count, and changes
nothing (R29, R192). -/
def Obligations.QueryTimebaseReports : Prop :=
  ∀ (s : State) (tag : Byte), Takes s →
    exec (.queryTimebase tag) s = .next (answered 0x88 tag .ok
      (be8 s.ref.state.code ++ be8 s.ref.source.code ++ be32 s.ref.tick.toNat ++ be8 s.ref.progress
        ++ be16 s.ref.lastCheck) s)

/-- QUERY SITES, QUERY LANE, QUERY QUEUE and QUERY PATHS answer with the summaries as they stand and change nothing;
a lane above 3 or a site above 15 is BAD_FIELD (R21, R40, R80, R171, R198). READ PLAN and READ LIMITS (R53, R56):
BAD_FIELD out of range, NO_SUCH on an EMPTY place, else the record with its protected and in-use marks; neither
changes anything. -/
def Obligations.QueriesReportAndKeep : Prop :=
  (∀ (s : State) (tag : Byte), Takes s →
     exec (.querySites tag) s = .next (answeredSegments 0x84 tag
       [((allSites.take 12).map fun i => siteSummary (s.site i)).flatten,
        ((allSites.drop 12).map fun i => siteSummary (s.site i)).flatten ++ allQuads.flatMap (quadSummary s)] s)
     ∧ (∀ lane, 4 ≤ lane → exec (.queryLane tag lane) s = .next (answered 0x89 tag .badField [] s))
     ∧ (∀ l : Lane, exec (.queryLane tag l.val) s = .next (answered 0x89 tag .ok (laneSummary (s.lane l)) s))
     ∧ exec (.queryQueue tag) s = .next (answeredSegments 0xA6 tag
         (segmented (queueHead s) 10 (s.jobs.map jobBytes)) s)
     ∧ (∀ n, 16 ≤ n → exec (.queryPaths tag (some n)) s = .next (answered 0xB8 tag .badField [] s))
     ∧ (∀ i : Site, exec (.queryPaths tag (some i.val)) s = .next (answeredSegments 0xB8 tag
         [be8 4 ++ be16 (if hasUsablePath s i then 2 ^ i.val else 0)
           ++ (allLanes.map fun l => pathBytes i l (s.path i l)).flatten] s))
     ∧ exec (.queryPaths tag none) s = .next (answeredSegments 0xB8 tag
         (segmented (be8 64 ++ be16 (usableMask s allSites)) 8 (allSites.flatMap (sitePathItems s))) s))
  ∧ ∀ (s : State) (tag : Byte), Takes s →
      (∀ n, 24 ≤ n → exec (.readPlan tag n) s = .next (answered 0x92 tag .badField [] s))
      ∧ (∀ p : PlanIx, s.plan p = none → exec (.readPlan tag p.val) s = .next (answered 0x92 tag .noSuch [] s))
      ∧ (∀ (p : PlanIx) (r : Plan), s.plan p = some r →
          exec (.readPlan tag p.val) s = .next (answered 0x92 tag .ok
            (r.bytes ++ beBool (planProtected s p) ++ beBool (planInUse s p)) s))
      ∧ (∀ n, 16 ≤ n → exec (.readLimits tag n) s = .next (answered 0x95 tag .badField [] s))
      ∧ (∀ x : LimitIx, s.limitSet x = none →
          exec (.readLimits tag x.val) s = .next (answered 0x95 tag .noSuch [] s))
      ∧ ∀ (x : LimitIx) (l : List LimitEntry), s.limitSet x = some l →
          exec (.readLimits tag x.val) s = .next (answered 0x95 tag .ok
            (beList LimitEntry.bytes l ++ beBool (limitsProtected s x) ++ beBool (limitsInUse s x)) s)

/-! ### Lane calibration requests -/

/-- RECALIBRATE (R38): a calibration starts from IDLE, UNCALIBRATED or FAULTED under a LOCKED reference, from
FAULTED with its failures at 0; BUSY while calibrating or measuring; STATE otherwise; a lane above 3 is BAD_FIELD.
IDLE under another reference, which R37 rules out, is refused as UNCALIBRATED is (log 20). -/
def Obligations.RecalibrateByState : Prop :=
  ∀ (s : State) (tag : Byte) (lane : Nat), Takes s →
    (4 ≤ lane → exec (.recalibrate tag lane) s = .next (answered 0x8A tag .badField [] s))
    ∧ ∀ l : Lane, l.val = lane →
      match (s.lane l).state with
      | .idle | .uncalibrated =>
        (s.ref.state = .locked → exec (.recalibrate tag lane) s = .next (answered 0x8A tag .ok [4]
          (s.modLane l fun c => { c with state := .calibrating, calLeft := ⟨25, false⟩ })))
        ∧ (s.ref.state ≠ .locked → exec (.recalibrate tag lane) s = .next (answered 0x8A tag .state [] s))
      | .faulted =>
        (s.ref.state = .locked → exec (.recalibrate tag lane) s = .next (answered 0x8A tag .ok [4]
          (s.modLane l fun c => { c with calFails := 0, state := .calibrating, calLeft := ⟨25, false⟩ })))
        ∧ (s.ref.state ≠ .locked → exec (.recalibrate tag lane) s = .next (answered 0x8A tag .state [] s))
      | .disabled => exec (.recalibrate tag lane) s = .next (answered 0x8A tag .state [] s)
      | .calibrating | .attaching | .acquiring | .discarding | .capturing | .reducing =>
        exec (.recalibrate tag lane) s = .next (answered 0x8A tag .busy [] s)

/-- LANE MODE ENABLE (R39): a DISABLED lane has its failures at 0 and is UNCALIBRATED, or calibrates at once under a
LOCKED reference; a lane in any other state is left as it is; a lane above 3 is BAD_FIELD. LANE MODE DISABLE (R39,
R75, R103, R152): a measuring lane gives its job back PREEMPTED; a calibration or a hold ends; the lane is DISABLED
and the QUEUED checks on it end; a DISABLED lane is left as it is; a lane above 3 is BAD_FIELD. What giving back does
is GivenBackJobIsDecided. The end of the QUEUED checks whose target is the lane (R75, R76, R130): each leaves the list
and fills its slot NO_PATH with the rating of its path as it stands, without floors; the handles join the queue in list
order, and nothing else changes. -/
def Obligations.LaneModeByState : Prop :=
  (∀ (s : State) (l : Lane), SlotsFitJobs s →
     let ends (j : Job) : Bool := j.running.isNone && j.work == .check l
     let gone := s.jobs.filter ends
     let t := endChecksOn l s
     t.jobs = (s.jobs.filter fun j => !ends j) ∧ t.results.queue = s.results.queue ++ gone.map (·.handle)
     ∧ (∀ j ∈ gone, ∃ r, t.slot j.handle = .filled r ∧ r.jobId = j.id ∧ r.work = .check l ∧ r.site = j.site
         ∧ r.code = .noPath ∧ r.laneUsed = j.lastRun.map (·.lane) ∧ r.start = j.lastRun.map (·.tick)
         ∧ r.endTick = s.ref.tick ∧ r.retries = j.retries ∧ r.preemptions = j.preemptions ∧ r.freqError = none
         ∧ r.figures = .none ∧ r.spots = [] ∧ r.verdict = none ∧ r.floors = .none
         ∧ r.rating = (s.path j.site l).rating ∧ r.pathUpdated = false)
     ∧ (∀ h, (∀ j ∈ gone, j.handle ≠ h) → t.slot h = s.slot h)
     ∧ t = { s with jc := { s.jc with jobs := t.jobs }, results := t.results })
  ∧ (∀ (s : State) (tag : Byte) (lane : Nat), Takes s →
     (4 ≤ lane → exec (.laneModeEnable tag lane) s = .next (answered 0x8B tag .badField [] s))
     ∧ ∀ l : Lane, l.val = lane →
       ((s.lane l).state ≠ .disabled →
         exec (.laneModeEnable tag lane) s = .next (answered 0x8B tag .ok (be8 (s.lane l).state.code) s))
       ∧ ((s.lane l).state = .disabled → s.ref.state ≠ .locked →
           exec (.laneModeEnable tag lane) s = .next (answered 0x8B tag .ok [2]
             (s.modLane l fun c => { c with calFails := 0, state := .uncalibrated })))
       ∧ ((s.lane l).state = .disabled → s.ref.state = .locked →
           exec (.laneModeEnable tag lane) s = .next (answered 0x8B tag .ok [4]
             (s.modLane l fun c => { c with calFails := 0, state := .calibrating, calLeft := ⟨25, false⟩ }))))
  ∧ ∀ (s : State) (tag : Byte) (lane : Nat), Takes s →
      (4 ≤ lane → exec (.laneModeDisable tag lane) s = .next (answered 0x8B tag .badField [] s))
      ∧ ∀ l : Lane, l.val = lane →
        ((s.lane l).state = .disabled →
          exec (.laneModeDisable tag lane) s = .next (answered 0x8B tag .ok [0] s))
        ∧ ((s.lane l).state ≠ .disabled →
            let u := setFollow none s
            let v := if isMeasuring (s.lane l).state then giveBack l .preempted .disabled u else u
            exec (.laneModeDisable tag lane) s = .next (replied 0x8B tag .ok (.single [0])
              (endChecksOn l (v.modLane l fun c =>
                { c with state := .disabled, calLeft := ⟨0, false⟩, hold := false, holdLeft := ⟨0, false⟩ }))))

/-! ### Plans, limits, protection -/

/-- WRITE PLAN and ERASE PLAN (R51, R52): BAD_FIELD, then PROTECTED, then IN_USE, in this order; else that place
alone changes. WRITE LIMITS and ERASE LIMITS (R54, R55): BAD_FIELD, then PROTECTED, then IN_USE, in this order; else
that place alone changes. -/
def Obligations.PlanAndLimitWritesChecked : Prop :=
  (∀ (s : State) (tag : Byte) (index : Nat) (plan : Plan), Takes s →
     (24 ≤ index → exec (.writePlan tag index plan) s = .next (answered 0x90 tag .badField [] s)
         ∧ exec (.erasePlan tag index) s = .next (answered 0x91 tag .badField [] s))
     ∧ ∀ p : PlanIx, p.val = index →
       let locked := p.val < s.store.boundary
       let inUse := ∃ j ∈ s.jobs, j.work = .measure p
       let put (x : Option Plan) : State := { s with store := { s.store with plans := s.store.plans.set p x } }
       (planValid s.link.settings.calPeriod plan = false →
         exec (.writePlan tag index plan) s = .next (answered 0x90 tag .badField [] s))
       ∧ (planValid s.link.settings.calPeriod plan = true → locked →
           exec (.writePlan tag index plan) s = .next (answered 0x90 tag .isProtected [] s))
       ∧ (planValid s.link.settings.calPeriod plan = true → ¬ locked → inUse →
           exec (.writePlan tag index plan) s = .next (answered 0x90 tag .inUse [] s))
       ∧ (planValid s.link.settings.calPeriod plan = true → ¬ locked → ¬ inUse →
           exec (.writePlan tag index plan) s = .next (answered 0x90 tag .ok [] (put (some plan))))
       ∧ (locked → exec (.erasePlan tag index) s = .next (answered 0x91 tag .isProtected [] s))
       ∧ (¬ locked → inUse → exec (.erasePlan tag index) s = .next (answered 0x91 tag .inUse [] s))
       ∧ (¬ locked → ¬ inUse → exec (.erasePlan tag index) s = .next (answered 0x91 tag .ok [] (put none))))
  ∧ ∀ (s : State) (tag : Byte) (index : Nat) (entries : List LimitEntry), Takes s →
      (16 ≤ index → exec (.writeLimits tag index entries) s = .next (answered 0x93 tag .badField [] s)
          ∧ exec (.eraseLimits tag index) s = .next (answered 0x94 tag .badField [] s))
      ∧ ∀ x : LimitIx, x.val = index →
        let names (p : PlanIx) := ∃ r, s.plan p = some r ∧ r.limitSet = some x.val
        let locked := ∃ p : PlanIx, p.val < s.store.boundary ∧ names p
        let inUse := ∃ p : PlanIx, names p ∧ ∃ j ∈ s.jobs, j.work = .measure p
        let put (y : Option (List LimitEntry)) : State :=
          { s with store := { s.store with limits := s.store.limits.set x y } }
        (limitsValid entries = false →
          exec (.writeLimits tag index entries) s = .next (answered 0x93 tag .badField [] s))
        ∧ (limitsValid entries = true → locked →
            exec (.writeLimits tag index entries) s = .next (answered 0x93 tag .isProtected [] s))
        ∧ (limitsValid entries = true → ¬ locked → inUse →
            exec (.writeLimits tag index entries) s = .next (answered 0x93 tag .inUse [] s))
        ∧ (limitsValid entries = true → ¬ locked → ¬ inUse →
            exec (.writeLimits tag index entries) s = .next (answered 0x93 tag .ok [] (put (some entries))))
        ∧ (locked → exec (.eraseLimits tag index) s = .next (answered 0x94 tag .isProtected [] s))
        ∧ (¬ locked → inUse → exec (.eraseLimits tag index) s = .next (answered 0x94 tag .inUse [] s))
        ∧ (¬ locked → ¬ inUse → exec (.eraseLimits tag index) s = .next (answered 0x94 tag .ok [] (put none)))

/-- What a plan record and a limit list must be to be written (R45, R46, R48): every condition of the two rules, the
offset range by the products of R45, and nothing else. -/
def Obligations.PlanAndLimitConditions : Prop :=
  (∀ (calPeriod : Nat) (p : Plan),
    let phase := p.metrics.getLsbD 3 = true
    let inRange (x : Nat) := 2 * p.nominal ≤ x * p.stride * 1024 ∧ x * p.stride * 1024 ≤ 511 * p.nominal
    planValid calPeriod p = true ↔
      (1000000 ≤ p.nominal ∧ p.nominal ≤ 250000000) ∧ p.edge ≤ 1 ∧ p.flags.toNat < 4
      ∧ (1 ≤ p.stride ∧ p.stride ≤ 4096) ∧ (1 ≤ p.discard ∧ p.discard ≤ 64)
      ∧ (10 ≤ p.sampleExp ∧ p.sampleExp ≤ 16) ∧ (1 ≤ p.metrics.toNat ∧ p.metrics.toNat ≤ 15)
      ∧ (phase → 11 ≤ p.sampleExp) ∧ (phase ↔ p.band.isSome = true)
      ∧ (∀ lo hi, p.band = some (lo, hi) → lo < hi ∧ inRange lo ∧ inRange hi)
      ∧ (¬ phase → p.spots = []) ∧ p.spots.length ≤ 8 ∧ p.spots.Pairwise (· < ·) ∧ (∀ x ∈ p.spots, inRange x)
      ∧ (∀ n, p.limitSet = some n → n ≤ 15) ∧ p.retryLimit ≤ 3
      ∧ (10 ≤ p.budget ∧ p.budget ≤ 30000 ∧ p.budget ≤ 2 * calPeriod) ∧ (1 ≤ p.window ∧ p.window ≤ 2000))
  ∧ ∀ l : List LimitEntry,
    limitsValid l = true ↔ (1 ≤ l.length ∧ l.length ≤ 12) ∧ ∀ e ∈ l,
      e.selector ≤ 15 ∧ e.comparison ≤ 2 ∧ (1 ≤ e.bin ∧ e.bin ≤ 6)
      ∧ (e.comparison = 0 → e.lo = 0) ∧ (e.comparison = 1 → e.hi = 0) ∧ (e.comparison = 2 → e.lo ≤ e.hi)

/-- A protected plan and a plan that a listed job references are changed by no step but a reset's, whatever command is
at the front of the queue. The same holds for a limit set that a protected plan names, or that a plan names which a
listed job references (R49, R50). -/
def Obligations.ProtectedAndUsedPlansStay : Prop :=
  ∀ (s t : State), step s = .next t →
    (∀ c, s.pending.head? = some c → c ≠ .resetAssert ∧ ∀ contact rate, c ≠ .resetEnd contact rate) →
    let kept (p : PlanIx) := p.val < s.store.boundary ∨ ∃ j ∈ s.jobs, j.work = .measure p
    (∀ p, kept p → t.plan p = s.plan p)
    ∧ ∀ x : LimitIx, (∃ p r, kept p ∧ s.plan p = some r ∧ r.limitSet = some x.val) → t.limitSet x = s.limitSet x

/-- PROTECT (R57): without a boundary it reports the one held; above 24 is BAD_FIELD; a raise or the same value is
always taken; a lowering needs SETUP high and is else PROTECTED. -/
def Obligations.ProtectMovesBoundary : Prop :=
  ∀ (s : State) (tag : Byte) (level : Bool), Takes s →
    let u := setSetup level s
    exec (.protect tag none level) s = .next (answered 0x96 tag .ok (be8 s.store.boundary) u)
    ∧ ∀ b : Nat,
      let moved : State := { u with store := { s.store with boundary := b } }
      (25 ≤ b → exec (.protect tag (some b) level) s = .next (answered 0x96 tag .badField [] u))
      ∧ (b ≤ 24 → s.store.boundary ≤ b →
          exec (.protect tag (some b) level) s = .next (answered 0x96 tag .ok (be8 b) moved))
      ∧ (b ≤ 24 → b < s.store.boundary → level = true →
          exec (.protect tag (some b) level) s = .next (answered 0x96 tag .ok (be8 b) moved))
      ∧ (b ≤ 24 → b < s.store.boundary → level = false →
          exec (.protect tag (some b) level) s = .next (answered 0x96 tag .isProtected [] u))

/-! ### Jobs -/

/-- MEASURE (R63, R64): a field out of range is BAD_FIELD; then, in this order, an EMPTY plan is NO_SUCH, a
DISABLED, VACANT or FAULT site STATE, an entry for the site IN_USE, no usable path NO_PATH, each with the site, and
no room FULL; else one job is appended at the tail with the next job id and the lowest FREE slot, RESERVED. -/
def Obligations.MeasureEnqueues : Prop :=
  ∀ (s : State) (tag : Byte) (site plan : Nat), Takes s →
    let c : Instr := .measure tag site plan
    (16 ≤ site ∨ 24 ≤ plan → exec c s = .next (answered 0xA0 tag .badField [] s))
    ∧ ∀ (i : Site) (p : PlanIx), i.val = site → p.val = plan →
      let away := (s.site i).state = .disabled ∨ (s.site i).state = .vacant ∨ (s.site i).state = .fault
      let listed := ∃ j ∈ s.jobs, j.site = i
      let room := s.jobs.length < 32 ∧ lowestFree s ≠ none
      (s.plan p = none → exec c s = .next (answered 0xA0 tag .noSuch (be8 i.val) s))
      ∧ (s.plan p ≠ none → away → exec c s = .next (answered 0xA0 tag .state (be8 i.val) s))
      ∧ (s.plan p ≠ none → ¬ away → listed → exec c s = .next (answered 0xA0 tag .inUse (be8 i.val) s))
      ∧ (s.plan p ≠ none → ¬ away → ¬ listed → hasUsablePath s i = false →
          exec c s = .next (answered 0xA0 tag .noPath (be8 i.val) s))
      ∧ (s.plan p ≠ none → ¬ away → ¬ listed → hasUsablePath s i = true → ¬ room →
          exec c s = .next (answered 0xA0 tag .full [] s))
      ∧ (s.plan p ≠ none → ¬ away → ¬ listed → hasUsablePath s i = true → s.jobs.length < 32 →
          ∀ h : Handle, lowestFree s = some h →
            let j : Job :=
              { id := nextJobId s, work := .measure p, site := i, batch := none, running := none, handle := h,
                retries := 0, preemptions := 0, enqueued := s.ref.tick, lastRun := none }
            exec c s = .next (answered 0xA0 tag .ok (be8 j.id ++ be8 h.val)
              ((s.setSlot h .reserved).modJc fun x => { x with jobs := x.jobs ++ [j], lastJobId := j.id })))

/-- One appended job (R61, R62, R125): its id is the first value after the last assigned one, counting upward and
wrapping from 255 to 1, that no listed job holds; its slot is the lowest FREE one, which is RESERVED; it stands
QUEUED at the tail; nothing else changes. -/
def Obligations.AppendedJobTakesNextIdAndSlot : Prop :=
  ∀ (s : State) (batch : Option Nat) (n : NewJob) (h : Handle), s.jobs.length < 32 → s.jc.lastJobId ≤ 255 →
    s.slot h = .free → (∀ g : Handle, g < h → s.slot g ≠ .free) →
    ∃ id k, id = (s.jc.lastJobId + k) % 255 + 1 ∧ k < 255 ∧ (∀ j ∈ s.jobs, j.id ≠ id)
      ∧ (∀ m, m < k → ∃ j ∈ s.jobs, j.id = (s.jc.lastJobId + m) % 255 + 1)
      ∧ appendJob batch s n = (s.setSlot h .reserved).modJc fun x =>
          { x with
            jobs := x.jobs ++ [⟨id, n.work, n.site, batch, none, h, 0, 0, s.ref.tick, none⟩]
            lastJobId := id }

/-- SCREEN and CHECK PATHS (R63, R65, R66): an empty set, a lane bit above 3 or a plan out of range is BAD_FIELD. Each
check is made over every job the request would create, by site and by lane within a site, before the next: an EMPTY plan
NO_SUCH; for a MEASURE job a DISABLED, VACANT or FAULT site and for a CHECK job a FAULT site STATE; an entry of the site
IN_USE, but for a CHECK entry of another lane beside a CHECK job; no usable path, or a DISABLED target lane, NO_PATH;
each with the first job that fails it, and nothing changes; no room FULL. Else every job is appended in that order under
one batch id: the first value after the last assigned one, counting upward and wrapping from 255 to 1, that no listed
job carries (R62). One appended job is AppendedJobTakesNextIdAndSlot. -/
def Obligations.BatchesEnqueueWhole : Prop :=
  ∀ (s : State) (tag : Byte), Takes s →
    let noPlan (n : NewJob) : Prop := ∃ p, n.work = .measure p ∧ s.plan p = none
    let badState (n : NewJob) : Prop := (s.site n.site).state = .fault
      ∨ ((s.site n.site).state = .disabled ∨ (s.site n.site).state = .vacant) ∧ ∃ p, n.work = .measure p
    let conflict (n : NewJob) : Prop :=
      ∃ j ∈ s.jobs, j.site = n.site ∧ ∀ a b, n.work = .check a → j.work = .check b → a = b
    let noPath (n : NewJob) : Prop := match n.work with
      | .measure _ => ∀ l, (s.path n.site l).rating = .bad
          ∨ (s.link.settings.requireChecked = true ∧ (s.path n.site l).rating = .unchecked)
      | .check l => (s.lane l).state = .disabled
    let enqueues (c : Instr) (kind : Byte) (place : NewJob → List Byte) (item : Job → List Byte)
        (news : List NewJob) : Prop :=
      let refused (x : Status) (n : NewJob) : Prop := exec c s = .next (answered kind tag x (place n) s)
      let first (fails : NewJob → Prop) (n : NewJob) : Prop :=
        ∃ before after, news = before ++ n :: after ∧ (∀ m ∈ before, ¬ fails m) ∧ fails n
      let room := s.jobs.length + news.length ≤ 32
        ∧ news.length ≤ allHandles.countP fun h => decide (s.slot h = .free)
      (∀ n, first noPlan n → refused .noSuch n)
      ∧ (∀ n, (∀ m ∈ news, ¬ noPlan m) → first badState n → refused .state n)
      ∧ (∀ n, (∀ m ∈ news, ¬ noPlan m ∧ ¬ badState m) → first conflict n → refused .inUse n)
      ∧ (∀ n, (∀ m ∈ news, ¬ noPlan m ∧ ¬ badState m ∧ ¬ conflict m) → first noPath n → refused .noPath n)
      ∧ ((∀ m ∈ news, ¬ noPlan m ∧ ¬ badState m ∧ ¬ conflict m ∧ ¬ noPath m) →
          (¬ room → exec c s = .next (answered kind tag .full [] s))
          ∧ (room → ∃ b k, b = (s.jc.lastBatchId + k) % 255 + 1 ∧ k < 255 ∧ (∀ j ∈ s.jobs, j.batch ≠ some b)
              ∧ (∀ m, m < k → ∃ j ∈ s.jobs, j.batch = some ((s.jc.lastBatchId + m) % 255 + 1))
              ∧ let u := appendJobs (some b) news
                  { setFollow none s with jc := { s.jc with lastBatchId := b } }
                exec c s = .next (replied kind tag .ok (.single (be8 b ++ be8 news.length
                  ++ (u.jobs.drop s.jobs.length).flatMap item)) u)))
    ∀ (sites : BitVec 16) (plan : Nat) (lanes : BitVec 8),
      let chosen := allSites.filter fun i => sites.getLsbD i.val
      (sites = 0 ∨ 24 ≤ plan → exec (.screen tag sites plan) s = .next (answered 0xA1 tag .badField [] s))
      ∧ (sites = 0 ∨ lanes = 0 ∨ 16 ≤ lanes.toNat →
          exec (.checkPaths tag sites lanes) s = .next (answered 0xA2 tag .badField [] s))
      ∧ (∀ p : PlanIx, p.val = plan → sites ≠ 0 →
          enqueues (.screen tag sites plan) 0xA1 (fun n => be8 n.site.val)
            (fun j => be8 j.site.val ++ be8 j.id ++ be8 j.handle.val) (chosen.map fun i => ⟨.measure p, i⟩))
      ∧ (sites ≠ 0 → lanes ≠ 0 → lanes.toNat < 16 →
          enqueues (.checkPaths tag sites lanes) 0xA2 (fun n => be8 n.site.val ++ beWork n.work)
            (fun j => be8 j.site.val ++ beWork j.work ++ be8 j.id ++ be8 j.handle.val)
            (chosen.flatMap fun i => (allLanes.filter fun l => lanes.getLsbD l.val).map fun l => ⟨.check l, i⟩))

/-- CANCEL (R77): a selector or value out of range is BAD_FIELD; none selected is NO_SUCH; else every selected job
ends CANCELLED in list order, a QUEUED one in the list and a RUNNING one on its lane, and the reply carries how many
there were and how many were RUNNING; the pause flag stays. What an end does is JobEndsOnItsLane and
DepositFillsSlot. -/
def Obligations.CancelEndsSelected : Prop :=
  ∀ (s : State) (tag : Byte) (selector value : Nat), Takes s →
    let c : Instr := .cancel tag selector value
    let inRange := (selector = 1 ∧ 1 ≤ value ∧ value ≤ 255) ∨ (selector = 2 ∧ value ≤ 15)
      ∨ (selector = 3 ∧ 1 ≤ value ∧ value ≤ 255)
    let chosen := s.jobs.filter fun j =>
      if selector = 1 then j.id == value else if selector = 2 then j.site.val == value else j.batch == some value
    (¬ inRange → exec c s = .next (answered 0xA3 tag .badField [] s))
    ∧ (inRange → chosen = [] → exec c s = .next (answered 0xA3 tag .noSuch [] s))
    ∧ (inRange → chosen ≠ [] →
        exec c s = .next (replied 0xA3 tag .ok
          (.single (be8 chosen.length ++ be8 (chosen.countP fun j => j.running.isSome)))
          (chosen.foldl (fun u j =>
            match j.running with
            | none => endInList .cancelled u j
            | some l => endJob l j (bareEnd .cancelled (u.lane l).run.coarse) .idle u) (setFollow none s))))

/-- PAUSE sets the pause flag and RESUME clears it; the reply carries the flag after the request, and nothing else
changes (R79). While it is set no pairing is made. -/
def Obligations.PauseHoldsPairings : Prop :=
  ∀ (s : State) (tag : Byte),
    (Takes s →
      exec (.pause tag) s = .next (answered 0xA4 tag .ok [1] { s with jc := { s.jc with paused := true } })
      ∧ exec (.resume tag) s = .next (answered 0xA5 tag .ok [0] { s with jc := { s.jc with paused := false } }))
    ∧ (s.jc.paused = true → exec .lanePairing s = .next s)

/-! ### Ends of jobs -/

/-- The announcement of a site's entry into VACANT, FAULT or DISABLED (R15, R74, R76): every QUEUED MEASURE job of
the site leaves the list and fills its slot SITE_GONE without figures, bin or verdict; the handles join the queue in
list order; the site's last job id is that of the last of them, and nothing else changes. -/
def Obligations.AnnouncedSiteEndsItsJobs : Prop :=
  ∀ (s : State) (i : Site), SlotsFitJobs s →
    let gone := s.jobs.filter fun j => j.running.isNone && j.work.kind == .measure && j.site == i
    let t := announce i s
    t.jobs = (s.jobs.filter fun j => !(j.running.isNone && j.work.kind == .measure && j.site == i))
      ∧ t.results.queue = s.results.queue ++ gone.map (·.handle)
      ∧ (∀ j ∈ gone, ∃ r, t.slot j.handle = .filled r ∧ r.jobId = j.id ∧ r.code = .siteGone ∧ r.site = i
          ∧ r.laneUsed = j.lastRun.map (·.lane) ∧ r.start = j.lastRun.map (·.tick) ∧ r.endTick = s.ref.tick
          ∧ r.retries = j.retries ∧ r.preemptions = j.preemptions ∧ r.verdict = none ∧ r.figures = .none
          ∧ r.spots = [] ∧ r.freqError = none)
      ∧ (∀ h, (∀ j ∈ gone, j.handle ≠ h) → t.slot h = s.slot h)
      ∧ t.site i = { s.site i with
          lastJobId := match gone.getLast? with
            | some j => some j.id
            | none => (s.site i).lastJobId }
      ∧ (∀ k, k ≠ i → t.site k = s.site k)
      ∧ t = { s with sites := t.sites, jc := { s.jc with jobs := t.jobs }, results := t.results }

/-- The filling of a slot (R126 to R128, R130 to R132, R135, R136): the record is stored in the job's slot with its
tick and code; the handle joins the queue at its tail. The verdict of a MEASURE result: at a NORMAL end that of the
DEFINED limit set which the job's plan names, and none where it names none or an EMPTY one; at an ABNORMAL end bin 7
alone; at an INTERRUPTED end none. A CHECK result has no verdict and carries the rating of its path, and whether the
path was updated. A MEASURE job's site takes its last job id, counts NORMAL and ABNORMAL results up to 65,535, and takes
a bin that is handed. Nothing else changes. -/
def Obligations.DepositFillsSlot : Prop :=
  ∀ (s : State) (j : Job) (d : Deposit),
    let t := deposit j d s
    (∃ r, t.slot j.handle = .filled r ∧ r.jobId = j.id ∧ r.work = j.work ∧ r.site = j.site ∧ r.batch = j.batch
        ∧ r.code = d.code ∧ r.laneUsed = d.laneUsed ∧ r.retries = j.retries ∧ r.preemptions = j.preemptions
        ∧ r.start = d.start ∧ r.endTick = s.ref.tick ∧ r.freqError = d.freqError ∧ r.figures = d.figures
        ∧ r.spots = d.spots ∧ r.floors = d.floors ∧ r.pathUpdated = d.pathUpdated
        ∧ (∀ l, j.work = .check l → r.verdict = none ∧ r.rating = (s.path j.site l).rating ∧ t.sites = s.sites)
        ∧ (classOf d.code = .interrupted → r.verdict = none)
        ∧ (j.work.kind = .measure → classOf d.code = .abnormal → r.verdict = some ⟨7, none, 0⟩)
        ∧ (∀ p, j.work = .measure p → classOf d.code = .normal →
            (∀ plan (x : LimitIx) entries, s.plan p = some plan → plan.limitSet = some x.val →
              s.limitSet x = some entries → r.verdict = some (judge d entries))
            ∧ ((∀ plan (x : LimitIx), s.plan p = some plan → plan.limitSet = some x.val → s.limitSet x = none) →
                r.verdict = none))
        ∧ (j.work.kind = .measure → t.site j.site = { s.site j.site with
            lastJobId := some j.id
            completed := if classOf d.code = .interrupted then (s.site j.site).completed
              else min 65535 ((s.site j.site).completed + 1)
            lastBin := match r.verdict with
              | some v => some v.bin
              | none => (s.site j.site).lastBin }))
    ∧ t.results.queue = s.results.queue ++ [j.handle]
    ∧ (∀ h, h ≠ j.handle → t.slot h = s.slot h)
    ∧ (∀ k, k ≠ j.site → t.site k = s.site k)
    ∧ t = { s with sites := t.sites, results := t.results }

/-- The verdict over a limit set (R133, R134): entries whose value is absent are skipped and counted; the first
failing entry in list order decides the bin; with none the bin is 0. -/
def Obligations.VerdictIsFirstFailure : Prop :=
  ∀ (d : Deposit) (entries : List LimitEntry),
    let fails (e : LimitEntry) : Prop :=
      ∃ v saturated, selectedValue d e.selector = some (v, saturated)
        ∧ (saturated = true ∨ (e.comparison = 0 ∧ e.hi < v) ∨ (e.comparison = 1 ∧ v < e.lo)
            ∨ (2 ≤ e.comparison ∧ (v < e.lo ∨ e.hi < v)))
    let v := judge d entries
    v.skipped = entries.countP (fun e => (selectedValue d e.selector).isNone)
    ∧ ((∀ e ∈ entries, ¬ fails e) → v.bin = 0 ∧ v.deciding = none)
    ∧ ∀ k e, entries[k]? = some e → fails e → (∀ m f, m < k → entries[m]? = some f → ¬ fails f) →
        v.bin = e.bin ∧ v.deciding = some k

/-- The end of a listed job on its lane (R72, R94, R95, R97): the job alone leaves the list; only a CHECK job that ends
NORMAL writes its path; its slot is filled, and its site notified, by the deposit of what the lane hands, which is
DepositFillsSlot; the lane is held exactly where R97 asks, has its run state cleared and is in the state named; its site
is detached. Sites and quiet countdowns are what the deposit and the detach leave; the other lanes and the rest of the
part are unchanged. A detach (R8, R9) clears the site's attachment and releases its quad. The release does nothing while
a site of the quad is attached or none is POWER_PENDING; else it switches every POWER_PENDING site of the quad on,
SETTLING with its settle ticks loaded, loads the SETTLING sites of the quad in full and restarts its quiet countdown, and
nothing else changes (R7, R8, R12). -/
def Obligations.JobEndsOnItsLane : Prop :=
  (∀ (s : State) (l : Lane) (j : Job) (e : EndReport) (dest : LaneState), SlotsFitJobs s → j ∈ s.jobs →
     (s.lane l).run.site = some j.site → (s.lane l).run.jobId = some j.id →
     let t := endJob l j e dest s
     let held := (∃ p r, j.work = .measure p ∧ s.plan p = some r ∧ r.keepSamples = true)
       ∧ (∃ c, (s.lane l).ring = some c ∧ c.jobId = j.id) ∧ dest ≠ .disabled
     let handed : Deposit :=
       { code := e.code, laneUsed := some l, start := (s.lane l).run.start, freqError := e.freqError,
         figures := e.figures, spots := e.spots, floors := e.floors, pathUpdated := e.newRating.isSome }
     let u := deposit j handed { s with jc := { s.jc with jobs := t.jobs }, paths := t.paths }
     t.jobs = s.jobs.filter (fun x => x.id != j.id)
     ∧ (∀ i m, (j.work ≠ .check m ∨ e.newRating = none ∨ i ≠ j.site) → t.path i m = s.path i m)
     ∧ (∀ m x, j.work = .check m → e.newRating = some x → t.path j.site m =
         ⟨x, e.floors, some s.ref.tick, min 255 ((s.path j.site m).checks + 1)⟩)
     ∧ t.results = u.results
     ∧ (held → t.lane l = { s.lane l with run := RunState.idle, state := dest, hold := true,
                                          holdLeft := ⟨s.link.settings.holdLimit, false⟩ })
     ∧ (¬ held → t.lane l = { s.lane l with run := RunState.idle, state := dest })
     ∧ (∀ m, m ≠ l → t.lane m = s.lane m)
     ∧ t.sites = (detach l u).sites ∧ t.quiet = (detach l u).quiet
     ∧ (t.site j.site).attachedLane = none ∧ (t.site j.site).attachedKind = none
     ∧ t = { s with sites := t.sites, quiet := t.quiet, jc := { s.jc with jobs := t.jobs }, lanes := t.lanes,
                    results := t.results, paths := t.paths })
  ∧ (∀ (s : State) (l : Lane),
      ((s.lane l).run.site = none → detach l s = s)
      ∧ ∀ i, (s.lane l).run.site = some i → detach l s = release (quadOf i)
          (s.modSite i fun r => { r with attachedLane := none, attachedKind := none }))
  ∧ ∀ (s : State) (q : Quad),
      let t := release q s
      let attached := ∃ i, quadOf i = q ∧ (s.site i).attachedLane ≠ none
      let waits (i : Site) := quadOf i = q ∧ (s.site i).state = .powerPending
      (attached ∨ (∀ i, ¬ waits i) → t = s)
      ∧ (¬ attached → (∃ i, waits i) →
          (∀ i, (waits i → t.site i = { s.site i with
                supply := true, state := .settling, settle := ⟨(s.site i).settleTicks, false⟩ })
            ∧ (quadOf i = q → (s.site i).state = .settling →
                t.site i = { s.site i with settle := ⟨(s.site i).settleTicks, false⟩ })
            ∧ (¬ waits i → ¬ (quadOf i = q ∧ (s.site i).state = .settling) → t.site i = s.site i))
          ∧ t.quietOf q = ⟨s.link.settings.quietWindow, false⟩ ∧ (∀ p, p ≠ q → t.quietOf p = s.quietOf p)
          ∧ t = { s with sites := t.sites, quiet := t.quiet })

/-- A job given back by its lane (R73, R96): DISTURBED at its retry limit ends DISTURBED; a MEASURE job whose site
is gone ends SITE_GONE; a CHECK job whose target lane is DISABLED, or is being disabled, ends NO_PATH; any other is
requeued at the head of the list, QUEUED, with one retry more after DISTURBED and else one preemption more, up to
255, no slot or completion changes, and the sites and quiet countdowns are those that the detach alone leaves, which is
in JobEndsOnItsLane. -/
def Obligations.GivenBackJobIsDecided : Prop :=
  ∀ (s : State) (l : Lane) (j : Job) (cause : RequeueCause) (dest : LaneState), SlotsFitJobs s →
    j ∈ s.jobs → (s.lane l).run.jobId = some j.id →
    let t := giveBack l cause dest s
    let spent := cause = .disturbed ∧ j.retries = jobRetryLimit s j.work
    let siteGone := j.work.kind = .measure
      ∧ ((s.site j.site).state = .vacant ∨ (s.site j.site).state = .fault ∨ (s.site j.site).state = .disabled)
    let laneGone := ∃ m, j.work = .check m ∧ ((s.lane m).state = .disabled ∨ (m = l ∧ dest = .disabled))
    (spent → t = endJob l j (bareEnd .disturbed (s.lane l).run.coarse) dest s)
    ∧ (¬ spent → siteGone → t = endJob l j (bareEnd .siteGone (s.lane l).run.coarse) dest s)
    ∧ (¬ spent → laneGone → t = endJob l j (bareEnd .noPath (s.lane l).run.coarse) dest s)
    ∧ (¬ spent → ¬ siteGone → ¬ laneGone →
        t.jobs = (match cause with
            | .disturbed => { j with running := none, retries := j.retries + 1 }
            | .preempted | .refLost => { j with running := none, preemptions := min 255 (j.preemptions + 1) })
          :: s.jobs.filter (fun x => x.id != j.id)
        ∧ t.results = s.results
        ∧ t.lane l = { s.lane l with run := RunState.idle, state := dest }
        ∧ (∀ m, m ≠ l → t.lane m = s.lane m)
        ∧ t.sites = (detach l s).sites ∧ t.quiet = (detach l s).quiet
        ∧ (∀ i, (s.lane l).run.site = some i → (t.site i).attachedLane = none)
        ∧ t = { s with sites := t.sites, quiet := t.quiet, jc := { s.jc with jobs := t.jobs }, lanes := t.lanes })

/-! ### Results -/

/-- TAKE COMPLETION (R138): NO_SUCH on an empty queue; else the head leaves the queue, its slot goes from FILLED to
TAKEN with its record, and the reply carries the summary and the number of handles left. -/
def Obligations.TakeCompletionTakesHead : Prop :=
  ∀ (s : State) (tag : Byte), Takes s →
    (s.results.queue = [] → exec (.takeCompletion tag) s = .next (answered 0xB0 tag .noSuch [] s))
    ∧ ∀ (h : Handle) (rest : List Handle) (r : ResultRecord), s.results.queue = h :: rest → s.slot h = .filled r →
        exec (.takeCompletion tag) s = .next (answered 0xB0 tag .ok
          (be8 h.val ++ be8 r.jobId ++ be8 r.work.kind.code ++ beSite r.site ++ beWork r.work ++ beOpt be8 r.batch
            ++ be8 r.code.code ++ be8 (classOf r.code).code
            ++ (match r.work with
                | .measure _ => beOpt be8 (r.verdict.map (·.bin))
                | .check _ => be8 r.rating.code ++ beBool r.pathUpdated)
            ++ be32 r.endTick.toNat ++ be8 rest.length)
          { s with results := { slots := s.results.slots.set h (.taken r), queue := rest } })

/-- READ RESULT (R139): a handle above 47 is BAD_FIELD; FREE and RESERVED are NO_SUCH; FILLED and TAKEN answer with
the record; nothing changes. -/
def Obligations.ReadResultReports : Prop :=
  ∀ (s : State) (tag : Byte),
    Takes s →
    (∀ n, 48 ≤ n → exec (.readResult tag n) s = .next (answered 0xB1 tag .badField [] s))
    ∧ ∀ h : Handle,
      match s.slot h with
      | .free | .reserved => exec (.readResult tag h.val) s = .next (answered 0xB1 tag .noSuch [] s)
      | .filled r | .taken r =>
        exec (.readResult tag h.val) s = .next (answered 0xB1 tag .ok (resultBytes h r) s)

/-- FREE RESULT (R140): a handle above 47 is BAD_FIELD; TAKEN becomes FREE; FILLED is STATE; FREE and RESERVED are
NO_SUCH; nothing else changes. -/
def Obligations.FreeResultBySlot : Prop :=
  ∀ (s : State) (tag : Byte), Takes s →
    (∀ n, 48 ≤ n → exec (.freeResult tag n) s = .next (answered 0xB2 tag .badField [] s))
    ∧ ∀ h : Handle,
      match s.slot h with
      | .taken _ => exec (.freeResult tag h.val) s = .next (answered 0xB2 tag .ok []
          { s with results := { s.results with slots := s.results.slots.set h .free } })
      | .filled _ => exec (.freeResult tag h.val) s = .next (answered 0xB2 tag .state [] s)
      | .free | .reserved => exec (.freeResult tag h.val) s = .next (answered 0xB2 tag .noSuch [] s)

/-! ### Snapshots and samples -/

/-- SNAPSHOT (R146, R147): an empty set, or a bit above lane 3, is BAD_FIELD; else each lane of the set whose latch
is empty latches a record of this tick, without LIVE and with NO_DATA unless it is CAPTURING; a full latch stays;
the reply has each lane with its outcome; nothing else changes. READ SNAPSHOT (R145, R149): a lane above 3 is
BAD_FIELD; a full latch is returned and emptied; an empty one answers with a record formed now, LIVE, and with
NO_DATA when the lane is not CAPTURING, and stays empty. The record names the attached job, else the ring's, and
carries running figures only with a sample. -/
def Obligations.SnapshotsLatchAndRead : Prop :=
  (∀ (s : State) (tag : Byte) (lanes : BitVec 8), Takes s →
     (lanes = 0 ∨ 16 ≤ lanes.toNat → exec (.snapshot tag lanes) s = .next (answered 0xA8 tag .badField [] s))
     ∧ ∀ ls : List Lane, lanesIn? lanes = some ls → lanes ≠ 0 → ∃ t,
         exec (.snapshot tag lanes) s = .next (answered 0xA8 tag .ok
           (be8 ls.length ++ ls.flatMap fun l => be8 l.val ++ be8
             (if (s.lane l).latch.isSome then 1 else if (s.lane l).state = .capturing then 0 else 2)) t)
         ∧ (∀ l, t.lane l =
             if l ∈ ls ∧ (s.lane l).latch = none then { s.lane l with latch := some (snapshotOf s l false) }
             else s.lane l)
         ∧ (∀ l, (snapshotOf s l false).taken = s.ref.tick ∧ (snapshotOf s l false).live = false
             ∧ ((snapshotOf s l false).noData = true ↔ (s.lane l).state ≠ .capturing))
         ∧ t = { s with lanes := t.lanes })
  ∧ ∀ (s : State) (tag : Byte), Takes s →
      (∀ n, 4 ≤ n → exec (.readSnapshot tag n) s = .next (answered 0xA9 tag .badField [] s))
      ∧ ∀ l : Lane,
        (∀ r, (s.lane l).latch = some r →
          exec (.readSnapshot tag l.val) s = .next (answered 0xA9 tag .ok (snapshotBytes r)
            (s.modLane l fun c => { c with latch := none })))
        ∧ ((s.lane l).latch = none → ∃ r : SnapshotRecord,
          exec (.readSnapshot tag l.val) s = .next (answered 0xA9 tag .ok (snapshotBytes r) s)
          ∧ r.lane = l ∧ r.live = true ∧ (r.noData = true ↔ (s.lane l).state ≠ .capturing)
          ∧ r.site = (s.lane l).run.site ∧ r.taken = s.ref.tick ∧ r.captured = (s.lane l).captured
          ∧ (∀ id, (s.lane l).run.jobId = some id → r.jobId = some id)
          ∧ ((s.lane l).run.jobId = none → r.jobId = (s.lane l).ring.map (·.jobId))
          ∧ ((s.lane l).captured = 0 → r.span = none ∧ r.meanDev = none ∧ r.periodRms = none)
          ∧ ∀ a, 1 ≤ (s.lane l).captured → (s.lane l).acc = some a →
              r.span = some (a.maxError - a.minError) ∧ r.meanDev = some (runningMean a (s.lane l).captured)
                ∧ r.periodRms = some (runningRms a (s.lane l).captured))

/-- READ SAMPLES (R155, R156): its refusals in their order; else the window of the start sequence and its first
block, and the follow context set with follow on and NONE with it off; the ring is not changed. NEXT (R157): STATE
without a context; NO_SUCH with the stale mark set, and the context ends; else the next block of the window, and the
next index advances, returning to the base past the window's end. -/
def Obligations.SamplesReadInWindows : Prop :=
  (∀ (s : State) (tag : Byte) (lane start size follow : Nat), Takes s → start ≤ 65535 →
     let c : Instr := .readSamples tag lane start size follow
     let sizeOk := size = 64 ∨ size = 128 ∨ size = 256 ∨ size = 512
     (¬ (lane ≤ 3 ∧ sizeOk ∧ follow ≤ 1) → exec c s = .next (answered 0xAA tag .badField [] s))
     ∧ (sizeOk → follow ≤ 1 → ∀ l : Lane, l.val = lane →
         (isMeasuring (s.lane l).state = true → exec c s = .next (answered 0xAA tag .busy [] s))
         ∧ (isMeasuring (s.lane l).state = false → (s.lane l).ring = none →
             exec c s = .next (answered 0xAA tag .noSuch [] s))
         ∧ (isMeasuring (s.lane l).state = false → ∀ r, (s.lane l).ring = some r →
             (start < r.first ∨ r.first + r.samples.length ≤ start →
               exec c s = .next (answered 0xAA tag .badField [] s))
             ∧ (r.first ≤ start → start < r.first + r.samples.length →
                 let b := r.first + size * ((start - r.first) / size)
                 let e := min (b + size - 1) (r.first + r.samples.length - 1)
                 let n := min 16 (e - start + 1)
                 let block := be8 l.val ++ be8 r.jobId ++ be16 b ++ be16 size ++ be16 start ++ be8 n
                   ++ ((r.samples.drop (start - r.first)).take n).flatMap sampleBytes
                 exec c s = .next (replied 0xAA tag .ok (.single block) (setFollow
                   (if follow = 1 then some ⟨l, b, e, size, if e < start + n then b else start + n, false⟩
                    else none) s))))))
  ∧ ∀ s : State, Takes s →
      (s.link.follow = none → exec .nextBlock s = .next (replied 0xAF 0 .state (.single []) s))
      ∧ ∀ f : Follow, s.link.follow = some f →
        (f.stale = true → exec .nextBlock s = .next (replied 0xAF 0 .noSuch (.single []) (setFollow none s)))
        ∧ ∀ r, f.stale = false → (s.lane f.lane).ring = some r →
            let n := min 16 (f.last - f.nextIndex + 1)
            let block := be8 f.lane.val ++ be8 r.jobId ++ be16 f.base ++ be16 f.size ++ be16 f.nextIndex ++ be8 n
              ++ ((r.samples.drop (f.nextIndex - r.first)).take n).flatMap sampleBytes
            exec .nextBlock s = .next (replied 0xAF 0 .ok (.single block) (setFollow
              (some { f with nextIndex := if f.last < f.nextIndex + n then f.base else f.nextIndex + n }) s))

/-- RELEASE LANE (R153): a lane above 3 is BAD_FIELD; a hold ends with RELEASED; without one NOT_HELD, and nothing
changes; the ring content and the latch are not touched, and no alert is raised. -/
def Obligations.ReleaseLaneEndsHold : Prop :=
  ∀ (s : State) (tag : Byte), Takes s →
    (∀ n, 4 ≤ n → exec (.releaseLane tag n) s = .next (answered 0xAB tag .badField [] s))
    ∧ ∀ l : Lane,
      ((s.lane l).hold = true → exec (.releaseLane tag l.val) s = .next (answered 0xAB tag .ok [0]
        (s.modLane l fun c => { c with hold := false, holdLeft := ⟨0, false⟩ })))
      ∧ ((s.lane l).hold = false → exec (.releaseLane tag l.val) s = .next (answered 0xAB tag .ok [1] s))

/-! ### Settings -/

/-- SET CONFIG (R22, R41, R154, R169, R170, R187, R188): each setting with its range and its refusals, in the order
of its owner's rule; an accepted value is written and nothing else changes; a code above 7 is BAD_FIELD. -/
def Obligations.SetConfigByOwner : Prop :=
  ∀ (s : State) (tag : Byte) (v : Nat), Takes s → v < 2 ^ 32 →
    let x := s.link.settings
    let bad (n : Nat) := exec (.setConfig tag n v) s = .next (answered 0xBC tag .badField [] s)
    let used (n : Nat) := exec (.setConfig tag n v) s = .next (answered 0xBC tag .inUse [] s)
    let put (n : Nat) (y : Settings) := exec (.setConfig tag n v) s = .next
      (answered 0xBC tag .ok (be8 n ++ be32 v) { s with link := { s.link with settings := y } })
    let tooLong := ∃ p r, s.plan p = some r ∧ 2 * v < r.budget
    (∀ n, 8 ≤ n → bad n)
    ∧ (v < 1000 ∨ 60000 < v → bad 0)
    ∧ (1000 ≤ v → v ≤ 60000 → tooLong → used 0)
    ∧ (1000 ≤ v → v ≤ 60000 → ¬ tooLong → put 0 { x with calPeriod := v })
    ∧ (500 < v → bad 1) ∧ (v ≤ 500 → put 1 { x with quietWindow := v })
    ∧ (v < 1 ∨ 50 < v → bad 2) ∧ (1 ≤ v → v ≤ 50 → put 2 { x with debounce := v })
    ∧ (v < 100 ∨ 60000 < v → bad 3) ∧ (100 ≤ v → v ≤ 60000 → put 3 { x with holdLimit := v })
    ∧ (v < 1 ∨ 100000 < v ∨ x.floorMarginal < v → bad 4)
    ∧ (1 ≤ v → v ≤ 100000 → v ≤ x.floorMarginal → put 4 { x with floorGood := v })
    ∧ (100000 < v ∨ v < x.floorGood → bad 5)
    ∧ (v ≤ 100000 → x.floorGood ≤ v → put 5 { x with floorMarginal := v })
    ∧ (1 < v → bad 6) ∧ (v ≤ 1 → s.jobs ≠ [] → used 6)
    ∧ (v ≤ 1 → s.jobs = [] → put 6 { x with requireChecked := v == 1 })
    ∧ (63 < v → bad 7) ∧ (v ≤ 63 → put 7 { x with alertMask := BitVec.ofNat 6 v })

/-- GET CONFIG (R189): a code above 7 is BAD_FIELD; else the code and the value held; nothing changes. -/
def Obligations.GetConfigReports : Prop :=
  ∀ (s : State) (tag : Byte), Takes s →
    let x := s.link.settings
    let ok (n v : Nat) := exec (.getConfig tag n) s = .next (answered 0xBD tag .ok (be8 n ++ be32 v) s)
    (∀ n, 8 ≤ n → exec (.getConfig tag n) s = .next (answered 0xBD tag .badField [] s))
    ∧ ok 0 x.calPeriod ∧ ok 1 x.quietWindow ∧ ok 2 x.debounce ∧ ok 3 x.holdLimit ∧ ok 4 x.floorGood
    ∧ ok 5 x.floorMarginal ∧ ok 6 (if x.requireChecked then 1 else 0) ∧ ok 7 x.alertMask.toNat

/-! ### Ticks, countdowns and site events -/

/-- A service tick, on the state after what was still owed (log 5): the tick count rises by 1; each site samples its
lines, its debounce run as R3 says; every running countdown falls by one; nothing else changes (R3, R10, R11, R13, R28,
R32, R175). The model's choices: a countdown stands at 1 and is due at its last tick (log 4); a debounced change or a
supply fault found is marked, the run being kept, and taken by its own command (log 14). Where nothing is owed, the state
after it is the state itself. -/
def Obligations.TickCountsAndSamples : Prop :=
  ∀ (s : State) (contact flt : BitVec 16) (order : Fin 24), s.pins.resetn = true →
    let u := drain s
    let down (c : Countdown) : Countdown :=
      if c.left = 0 then c else if c.left = 1 then ⟨1, true⟩ else ⟨c.left - 1, false⟩
    (∃ t, exec (.serviceTick contact flt order) s = .next t
      ∧ t.ref = { u.ref with tick := u.ref.tick + 1 }
      ∧ (∀ i, let r := u.site i
          let differs := contact.getLsbD i.val ≠ r.contact
          t.site i = { r with
            run := if differs then r.run + 1 else 0
            changeDue := decide (differs ∧ u.link.settings.debounce ≤ r.run + 1)
            settle := down r.settle
            tripDue := r.supply && flt.getLsbD i.val })
      ∧ (∀ q, t.quietOf q = down (u.quietOf q))
      ∧ (∀ l, let c := u.lane l
          t.lane l = { c with
            calCounter := if c.state = .idle ∨ isMeasuring c.state = true then down c.calCounter else c.calCounter
            calLeft := down c.calLeft
            holdLeft := down c.holdLeft
            run := { c.run with budget := down c.run.budget, attach := down c.run.attach,
                                capture := down c.run.capture, reduce := down c.run.reduce } })
      ∧ t.link = { u.link with gap := down u.link.gap, busy := down u.link.busy }
      ∧ t.pins = { u.pins with contact := contact, supplyFlt := flt } ∧ t.laneOrder = order
      ∧ t = { u with sites := t.sites, quiet := t.quiet, ref := t.ref, lanes := t.lanes, link := t.link,
                     pins := t.pins, laneOrder := t.laneOrder })
    ∧ ((∀ i, (s.site i).changeDue = false ∧ (s.site i).tripDue = false ∧ (s.site i).settle.due = false) →
        (∀ q, (s.quietOf q).due = false) → s.link.gap.due = false → s.link.busy.due = false →
        (∀ l, let c := s.lane l
          c.calCounter.due = false ∧ c.holdLeft.due = false ∧ c.run.budget.due = false
            ∧ c.run.attach.due = false ∧ c.run.capture.due = false ∧ c.run.reduce.due = false
            ∧ ¬ (c.state = .acquiring ∧ 40 ≤ acquireAge s l) ∧ (c.state = .idle → c.owed = 0)) →
        (∀ j ∈ s.jobs, ∀ l, mayStart s j l = false) → u = s)

/-- The countdowns that end with their own event alone: a settle countdown makes its site READY (R10), a quiet
countdown (R11) and the restart busy window (R182) stop, and a hold ends with HOLD_EXPIRED for its lane and its ring
content kept (R151). -/
def Obligations.CountdownsExpire : Prop :=
  ∀ s : State, s.pins.resetn = true →
    (∀ i, (s.site i).state = .settling → (s.site i).settle.due = true →
      exec (.settleExpiry i) s = .next (s.modSite i fun r => { r with state := .ready, settle := ⟨0, false⟩ }))
    ∧ (∀ q, (s.quietOf q).due = true → exec (.quietExpiry q) s = .next (s.setQuiet q ⟨0, false⟩))
    ∧ (s.link.busy.due = true →
        exec .restartBusyWindowEnd s = .next { s with link := { s.link with busy := ⟨0, false⟩ } })
    ∧ ∀ l, (s.lane l).hold = true → (s.lane l).holdLeft.due = true →
        exec (.holdExpiry l) s = .next (raiseHoldExpired l
          (s.modLane l fun c => { c with hold := false, holdLeft := ⟨0, false⟩ }))

/-- A debounced contact rise, a debounced fall and a supply-fault trip, by the state of the site (R4, R5, R6, R13): a
rise seats a VACANT site and, with autopower on, claims power: POWER_PENDING in an attached quad, else one switch-on
of every site of the quad whose autopower claim is found at that tick (R7), the quad's quiet countdown restarted and
its SETTLING sites loaded in full (R12); a fall makes every site but a DISABLED one VACANT, a powered one by a quad
switch event CONTACT_FALL, and is announced; a trip counts, makes the site FAULT by a quad switch event FAULT_TRIP,
raises SUPPLY_FAULT for it and is announced; with the supply OFF no trip is taken. That a change or a trip is owed is
the model's mark (log 14); that the row of the first such site takes the rises of the others with it, so that their
rows change nothing, is how the model makes them one event (log 34); the quad switch event comes before the alert and
the announcement, the order in which the rules list them (log 18). What those two do is SwitchEventReachesLanes and
AnnouncedSiteEndsItsJobs. -/
def Obligations.ContactAndSupplyEvents : Prop :=
  ∀ (s : State) (i : Site), s.pins.resetn = true →
    let r := s.site i
    let q := quadOf i
    let moved (level : Bool) (x : SiteState) : State :=
      s.modSite i fun r => { r with contact := level, run := 0, changeDue := false, state := x }
    (r.changeDue = true → r.contact = false →
      (r.state = .disabled ∨ r.state = .fault → exec (.contactRise i) s = .next (moved true r.state))
      ∧ (r.state = .vacant → r.autopower = false → exec (.contactRise i) s = .next (moved true .seated))
      ∧ (r.state = .vacant → r.autopower = true → quadAttached s q = true →
          exec (.contactRise i) s = .next (moved true .powerPending))
      ∧ (r.state = .vacant → r.autopower = true → quadAttached s q = false →
          let claims (k : Site) : Prop := quadOf k = q ∧ (s.site k).state = .vacant ∧ (s.site k).autopower = true
            ∧ (s.site k).changeDue = true ∧ (s.site k).contact = false
          ∃ t, exec (.contactRise i) s = .next t ∧ t = { s with sites := t.sites, quiet := t.quiet }
            ∧ (∀ k,
                (claims k → t.site k = { s.site k with
                  contact := true, run := 0, changeDue := false, supply := true, state := .settling,
                  settle := ⟨(s.site k).settleTicks, false⟩ })
                ∧ (quadOf k = q → (s.site k).state = .settling →
                    t.site k = { s.site k with settle := ⟨(s.site k).settleTicks, false⟩ })
                ∧ (¬ claims k → ¬ (quadOf k = q ∧ (s.site k).state = .settling) → t.site k = s.site k))
            ∧ t.quietOf q = ⟨s.link.settings.quietWindow, false⟩ ∧ (∀ p, p ≠ q → t.quietOf p = s.quietOf p)
            ∧ ∀ k, claims k → exec (.contactRise k) t = .next t))
    ∧ (r.changeDue = false ∨ r.contact = true → exec (.contactRise i) s = .next s)
    ∧ (r.changeDue = true → r.contact = true →
        (r.state = .disabled → exec (.contactFall i) s = .next (moved false .disabled))
        ∧ (r.state = .seated ∨ r.state = .powerPending ∨ r.state = .fault →
            exec (.contactFall i) s = .next (announce i (moved false .vacant)))
        ∧ (r.state = .settling ∨ r.state = .ready →
            exec (.contactFall i) s = .next (announce i (quadEvent q [i] .contactFall (s.modSite i fun r =>
              { r with contact := false, run := 0, changeDue := false, supply := false, state := .vacant,
                       settle := ⟨0, false⟩, tripDue := false })))))
    ∧ (r.tripDue = true → r.supply = true →
        exec (.supplyFaultTrip i) s = .next (announce i (raiseSupplyFault i (quadEvent q [i] .faultTrip
          (s.modSite i fun r =>
            { r with faults := min 255 (r.faults + 1), supply := false, state := .fault, settle := ⟨0, false⟩,
                     tripDue := false })))))
    ∧ (r.supply = false → exec (.supplyFaultTrip i) s = .next s)

/-- A quad switch event (R12, R99, R100): the quad's quiet countdown is QUIET_WINDOW and no other quad's changes; every
SETTLING site of the quad has its settle countdown loaded in full; then the lanes attached to a site of the quad take the
event one after another (in the order of log 7), and nothing else changes: a site of another quad keeps its record but for
a result's notice. A lane in ATTACHING to CAPTURING whose own site is named ends its MEASURE job with the code of the
cause, and one of which only other sites are named gives its job back DISTURBED; each leaves for IDLE with its ring and
count kept. Every other lane, one in REDUCING among them, is left as it is. What an end and a giving back do, to the
sites too, is JobEndsOnItsLane and GivenBackJobIsDecided. -/
def Obligations.SwitchEventReachesLanes : Prop :=
  (∀ (s : State) (q : Quad) (named : List Site) (cause : SwitchCause),
    let t := quadEvent q named cause s
    (∃ u : State, u = { s with sites := u.sites, quiet := u.quiet }
      ∧ (∀ i, u.site i = if quadOf i = q ∧ (s.site i).state = .settling then
            { s.site i with settle := ⟨(s.site i).settleTicks, false⟩ } else s.site i)
      ∧ u.quietOf q = ⟨s.link.settings.quietWindow, false⟩ ∧ (∀ p, p ≠ q → u.quietOf p = s.quietOf p)
      ∧ t = (lanesInOrder s.laneOrder).foldl (fun v l =>
          match (v.lane l).run.site with
          | none => v
          | some i => if quadOf i = q then takeSwitchEvent named cause l i v else v) u)
    ∧ t.quietOf q = ⟨s.link.settings.quietWindow, false⟩ ∧ (∀ p, p ≠ q → t.quietOf p = s.quietOf p)
    ∧ (∀ i, quadOf i ≠ q → t.site i = { s.site i with
        lastBin := (t.site i).lastBin, lastJobId := (t.site i).lastJobId, completed := (t.site i).completed })
    ∧ (∀ l, let c := s.lane l
        let reached := isMeasuring c.state = true ∧ c.state ≠ .reducing
          ∧ ∃ i, c.run.site = some i ∧ quadOf i = q
            ∧ ((i ∈ named ∧ c.run.kind = some .measure
                  ∧ (cause = .powerOff ∨ cause = .contactFall ∨ cause = .faultTrip))
                ∨ (i ∉ named ∧ cause ≠ .restartOff))
        (reached → (t.lane l).state = .idle ∧ (t.lane l).run = RunState.idle
            ∧ (t.lane l).ring = c.ring ∧ (t.lane l).captured = c.captured)
        ∧ (¬ reached → t.lane l = c))
    ∧ t = { s with sites := t.sites, quiet := t.quiet, jc := { s.jc with jobs := t.jobs }, lanes := t.lanes,
                   results := t.results })
  ∧ ∀ (s : State) (named : List Site) (l : Lane) (i : Site),
    let c := s.lane l
    let own (cause : SwitchCause) (code : TermCode) := i ∈ named → c.run.kind = some .measure →
      takeSwitchEvent named cause l i s = laneEnd l (bareEnd code c.run.coarse) .idle s
    let kept (cause : SwitchCause) := takeSwitchEvent named cause l i s = s
    ((isMeasuring c.state = false ∨ c.state = .reducing) → ∀ cause, kept cause)
    ∧ (i ∈ named → c.run.kind ≠ some .measure → ∀ cause, kept cause)
    ∧ (i ∈ named → kept .switchOn) ∧ kept .restartOff
    ∧ (isMeasuring c.state = true → c.state ≠ .reducing →
        own .powerOff .powerRemoved ∧ own .contactFall .contactLost ∧ own .faultTrip .supplyFault
        ∧ ∀ cause, i ∉ named → cause ≠ .restartOff →
            takeSwitchEvent named cause l i s = giveBack l .disturbed .idle s)

/-! ### The reference and calibration -/

/-- The end of a check interval (R26, R27, R28, R37): the count is recorded, saturating; outside LOCKED the state
and progress follow the table of R26; the entry into LOCKED takes the tick from REFIN, raises REFERENCE and starts a
calibration on every UNCALIBRATED lane and no other; a count outside the window in LOCKED is a loss, which takes the
tick from the backup oscillator, raises REFERENCE and makes every lane but a DISABLED or FAULTED one UNCALIBRATED, each
measuring lane giving its job back REF_LOST, the lanes one after another (R37, R102; their order log 7). What giving back
does to the job, its slot, the sites and the hold is GivenBackJobIsDecided. -/
def Obligations.CheckIntervalJudged : Prop :=
  ∀ (s : State) (edges : Nat), s.pins.resetn = true →
    let good := 9800 ≤ edges ∧ edges ≤ 10200
    let c : Instr := .checkIntervalEnd edges
    let moved (x : RefState) (p : Nat) (source : TickSource) : State :=
      { s with ref := ⟨x, p, min 65535 edges, source, s.ref.tick⟩ }
    (s.ref.state ≠ .locked →
      (edges = 0 → exec c s = .next (moved .absent 0 s.ref.source))
      ∧ (edges ≠ 0 → ¬ good → exec c s = .next (moved .qualifying 0 s.ref.source))
      ∧ (good → s.ref.state = .absent → exec c s = .next (moved .qualifying 1 s.ref.source))
      ∧ (good → s.ref.state = .qualifying → s.ref.progress + 1 < 200 →
          exec c s = .next (moved .qualifying (s.ref.progress + 1) s.ref.source))
      ∧ (good → s.ref.state = .qualifying → 200 ≤ s.ref.progress + 1 →
          ∃ t, exec c s = .next t
            ∧ t = { raiseAlert .reference (moved .locked 200 .refin) with lanes := t.lanes }
            ∧ ∀ l, t.lane l =
                if (s.lane l).state = .uncalibrated then
                  { s.lane l with state := .calibrating, calLeft := ⟨25, false⟩ }
                else s.lane l))
    ∧ (s.ref.state = .locked → good → exec c s = .next { s with ref := { s.ref with lastCheck := edges } })
    ∧ (s.ref.state = .locked → ¬ good →
        ∃ t, exec c s = .next t
          ∧ t = (lanesInOrder s.laneOrder).foldl (fun u l =>
              match (u.lane l).state with
              | .disabled | .faulted | .uncalibrated => u
              | .idle => u.modLane l fun c => { c with state := .uncalibrated }
              | .calibrating => u.modLane l fun c => { c with state := .uncalibrated, calLeft := ⟨0, false⟩ }
              | .attaching | .acquiring | .discarding | .capturing | .reducing =>
                giveBack l .refLost .uncalibrated u)
              (raiseAlert .reference (moved .absent 0 .backup))
          ∧ t.ref = ⟨.absent, 0, min 65535 edges, .backup, s.ref.tick⟩
          ∧ t.link = (raiseAlert .reference s).link ∧ t.store = s.store ∧ t.pins = s.pins
          ∧ t.pending = s.pending
          ∧ ∀ l, match (s.lane l).state with
            | .disabled | .faulted | .uncalibrated => t.lane l = s.lane l
            | .idle => t.lane l = { s.lane l with state := .uncalibrated }
            | .calibrating => t.lane l = { s.lane l with state := .uncalibrated, calLeft := ⟨0, false⟩ }
            | .attaching | .acquiring | .discarding | .capturing | .reducing =>
              t.lane l = { s.lane l with state := .uncalibrated, run := RunState.idle,
                                         hold := (t.lane l).hold, holdLeft := (t.lane l).holdLeft })

/-- The cal counter's expiry reloads the counter with CAL_PERIOD and raises the due count; the third starts a
calibration at once, from IDLE, or from a measuring state after its job is given back PREEMPTED (R32, R34). An IDLE
lane that owes one and is offered nothing starts one; one that may be offered a job does not (R33). -/
def Obligations.DueCalibrationsStart : Prop :=
  ∀ (s : State) (l : Lane), s.pins.resetn = true →
    let c := s.lane l
    let next (n : Nat) (c : LaneContext) : LaneContext :=
      { c with owed := n, calCounter := ⟨s.link.settings.calPeriod, false⟩ }
    let start (c : LaneContext) : LaneContext := { c with state := .calibrating, calLeft := ⟨25, false⟩ }
    (c.calCounter.due = true → c.state = .idle ∨ isMeasuring c.state = true → c.owed < 2 →
      exec (.calCounterExpiry l) s = .next (s.modLane l (next (c.owed + 1))))
    ∧ (c.calCounter.due = true → c.state = .idle → 2 ≤ c.owed →
        exec (.calCounterExpiry l) s = .next (s.modLane l fun c => start (next 3 c)))
    ∧ (c.calCounter.due = true → isMeasuring c.state = true → 2 ≤ c.owed →
        exec (.calCounterExpiry l) s = .next
          ((giveBack l .preempted .calibrating (s.modLane l (next 3))).modLane l start))
    ∧ (c.state = .idle → 1 ≤ c.owed → (∀ j ∈ s.jobs, mayStart s j l = false) →
        exec (.quietTimeCalibration l) s = .next (s.modLane l start))
    ∧ ((∃ j ∈ s.jobs, mayStart s j l = true) ∨ c.owed = 0 → exec (.quietTimeCalibration l) s = .next s)

/-- The completion of a calibration (R36): it passes exactly when the gain code lies in 16 to 1,007 and the residual
spread is at most 500 fs rms, and is recorded either way. A pass clears failures and due count, loads the counter,
takes the gain code into use and makes the lane IDLE; a first failure starts a second attempt; another makes the
lane FAULTED and raises LANE_FAULTED for it. -/
def Obligations.CalibrationCompletes : Prop :=
  ∀ (s : State) (l : Lane) (gain : Nat) (spread : Rat), s.pins.resetn = true →
    let c := s.lane l
    let good := 16 ≤ gain ∧ gain ≤ 1007 ∧ spread ≤ 500
    let done := exec (.calibrationComplete l gain spread) s
    c.state = .calibrating → c.calLeft.due = true →
    (good → done = .next (s.modLane l fun c =>
      { c with lastCal := some ⟨s.ref.tick, true, gain⟩, calFails := 0, owed := 0,
               calCounter := ⟨s.link.settings.calPeriod, false⟩, gain := some gain, state := .idle,
               calLeft := ⟨0, false⟩ }))
    ∧ (¬ good → c.calFails = 0 → done = .next (s.modLane l fun c =>
        { c with lastCal := some ⟨s.ref.tick, false, gain⟩, calFails := 1, state := .calibrating,
                 calLeft := ⟨25, false⟩ }))
    ∧ (¬ good → c.calFails ≠ 0 → done = .next (raiseLaneFaulted l (s.modLane l fun c =>
        { c with lastCal := some ⟨s.ref.tick, false, gain⟩, calFails := 2, state := .faulted,
                 calLeft := ⟨0, false⟩ })))

/-! ### Pairing and the run of a job -/

/-- The conditions under which a job may start on a lane: those of a QUEUED entry, of its site (R67) and of the lane
(R68). A pairing (R70, R71, R91, R144, R146, R158): with no job that may start nothing happens; else the earliest
entry that may start is paired with the lane of the lowest TIE floor, an absent floor last and the lower lane
between equals. The job runs on that lane in its place, its site is attached, the lane is ATTACHING with its run
state loaded and its latch, ring, accumulators and capture emptied, a follow context on it is stale, and nothing
else changes. -/
def Obligations.PairingTakesEarliestAndBest : Prop :=
  (∀ (s : State) (j : Job) (l : Lane),
     mayStart s j l = true ↔
       let r := s.site j.site
       let c := s.lane l
       let q := quadOf j.site
       j.running = none ∧ r.attachedLane = none ∧ (s.quietOf q).left = 0
       ∧ (∀ k, quadOf k = q → (s.site k).state ≠ .powerPending)
       ∧ c.state = .idle ∧ c.hold = false ∧ s.jc.paused = false ∧ s.ref.state = .locked
       ∧ (match j.work with
           | .measure p => r.state = .ready
               ∧ (s.path j.site l).rating ≠ .bad
               ∧ (s.link.settings.requireChecked = true → (s.path j.site l).rating ≠ .unchecked)
               ∧ (c.owed = 2 → ((s.plan p).map (·.budget)).getD 0 < c.calCounter.left)
           | .check t => (r.state = .vacant ∨ r.state = .seated ∨ r.state = .disabled) ∧ t = l
               ∧ (c.owed = 2 → 150 < c.calCounter.left)))
  ∧ ∀ s : State, s.pins.resetn = true → SlotsFitJobs s →
      ((∀ j ∈ s.jobs, ∀ l, mayStart s j l = false) → exec .lanePairing s = .next s)
      ∧ ∀ (before after : List Job) (j : Job) (l : Lane), s.jobs = before ++ j :: after →
          (∀ k ∈ before, ∀ m, mayStart s k m = false) → mayStart s j l = true →
          (∀ m, mayStart s j m = true →
            match (s.path j.site l).floors.tie, (s.path j.site m).floors.tie with
            | some x, some y => x < y ∨ (x = y ∧ l ≤ m)
            | some _, none => True
            | none, some _ => False
            | none, none => l ≤ m) →
          ∃ t, exec .lanePairing s = .next t
            ∧ t.jobs = before ++ { j with running := some l, lastRun := some ⟨l, s.ref.tick⟩ } :: after
            ∧ t.site j.site = { s.site j.site with attachedLane := some l, attachedKind := some j.work.kind }
            ∧ (∀ i, i ≠ j.site → t.site i = s.site i)
            ∧ t.lane l = { s.lane l with
                state := .attaching
                run := { RunState.idle with
                  site := some j.site
                  jobId := some j.id
                  kind := some j.work.kind
                  start := some s.ref.tick
                  budget := ⟨jobBudget s j.work, false⟩
                  attach := ⟨2, false⟩ }
                captured := 0
                acc := none
                ring := none
                memory := []
                latch := none }
            ∧ (∀ m, m ≠ l → t.lane m = s.lane m)
            ∧ t = { s with
                sites := t.sites
                lanes := t.lanes
                jc := { s.jc with jobs := t.jobs }
                link := { s.link with follow := s.link.follow.map fun f =>
                  if f.lane = l then { f with stale := true } else f } }

/-- Attach and acquisition of a run (R85 to R88, R94, R106), each test at its tick or after it (log 6), on the edges
of the chosen polarity (R44) that its row carries (log 35): the attach end; the no-signal window, whose passing is the
model's mark (log 24); the coarse check, whose error is rounded, halves away from zero (log 23), and brought into 32
bits, any error being stored where the edges span no time (log 17); the lock tests. Which row makes which lock test is
the model's choice (log 29): the coarse check's row that of e + 4; LOCK_ACQUIRED one up to and at e + 40, which
without lock only feeds the tracker; LOCK_WINDOW_END that of e + 40, which without lock ends the run NO_LOCK. A
finding ends a MEASURE job with its code and a CHECK job NORMAL with its path BAD. The tracker takes in every edge: a
period within 7/8 to 9/8 of the nominal one counts, any other starts the count anew; lock is held with 1,024 counted
and the next edge not overdue. -/
def Obligations.AcquisitionSteps : Prop :=
  (∀ (s : State) (l : Lane) (j : Job) (p : RunParams), s.pins.resetn = true → laneJob s l = some j →
     paramsOf s j.work = some p → (s.lane l).run.kind = some j.work.kind →
     let c := s.lane l
     let age := acquireAge s l
     let fail (code : TermCode) (coarse : Option Int) (u : State) : Host.Outcome State Fault Refusal :=
       .next (endJob l j (match j.work with
         | .measure _ => bareEnd code coarse
         | .check _ => ⟨.normal, coarse, .none, [], .none, some .bad⟩) .idle u)
     let onRun (f : RunState → RunState) (u : State) : State := u.modLane l fun c => { c with run := f c.run }
     let took (edges : List EdgeRun) : State :=
       onRun (fun r => { r with tracker := track p edges r.tracker }) s
     let held (u : State) (time : Rat) : Prop := (u.lane l).run.tracker.good ≥ 1024
       ∧ ∃ e, (u.lane l).run.tracker.last = some e
         ∧ 8 * (time - e) ≤ 9 * (((10 ^ 15 : Nat) : Rat) / (p.nominal : Nat))
     let locked (u : State) : State := u.modLane l fun c =>
       { c with state := .discarding, run := { c.run with discard := p.discard * 1024 } }
     (c.state = .attaching → c.run.attach.due = true →
       exec (.attachEnd l) s = .next (s.modLane l fun c =>
         { c with state := .acquiring, run := { c.run with attach := ⟨0, false⟩, attachEnd := some s.ref.tick } }))
     ∧ (c.state = .acquiring → c.run.signalSeen = false → 2 ≤ age → ∀ edges,
         ((∀ r ∈ edges, r.falling = p.falling → r.count = 0) →
           exec (.noSignalWindowEnd l edges) s = fail .noSignal c.run.coarse s)
         ∧ ((∃ r ∈ edges, r.falling = p.falling ∧ r.count ≠ 0) →
             exec (.noSignalWindowEnd l edges) s
               = .next (onRun (fun r => { r with signalSeen := true }) (took edges))))
     ∧ (c.state = .acquiring → c.run.signalSeen = true → c.run.coarse = none → 4 ≤ age →
         ∀ (edges : List EdgeRun) (since time : Rat),
         let chosen := edges.filter fun r => r.falling == p.falling && 0 < r.count
         let k := (chosen.map (·.count)).sum
         let done := exec (.coarseFrequencyCheck l edges since time) s
         (k < 2 → done = fail .noSignal none s)
         ∧ (2 ≤ k → ∃ error : Int,
             (∀ a b, chosen.head? = some a → chosen.getLast? = some b →
               let span := b.first + (b.count - 1 : Nat) * b.period - a.first
               0 < span → error = clampInt (-2147483648) 2147483647 (roundHalfAway
                 ((((k - 1 : Nat) * (10 ^ 15 : Nat) : Rat) / span / (p.nominal : Nat) - 1) * (10 ^ 9 : Nat))))
             ∧ let u := onRun (fun r => { r with coarse := some error }) { took edges with free := s.free + 1 }
               (p.window * 1000 < error.natAbs → done = fail .offFrequency (some error) u)
               ∧ (error.natAbs ≤ p.window * 1000 → held u time → done = .next (locked u))
               ∧ (error.natAbs ≤ p.window * 1000 → ¬ held u time → done = .next u)))
     ∧ (c.state = .acquiring → c.run.coarse ≠ none → ∀ (edges : List EdgeRun) (time : Rat),
         let u := took edges
         let test := exec (.lockAcquired ⟨l, edges, time⟩) s
         let last := exec (.lockWindowEnd ⟨l, edges, time⟩) s
         (age ≤ 40 → held u time → test = .next (locked u))
         ∧ (age ≤ 40 → ¬ held u time → test = .next u)
         ∧ (40 < age → test = .next s)
         ∧ (40 ≤ age → held u time → last = .next (locked u))
         ∧ (40 ≤ age → ¬ held u time → last = fail .noLock c.run.coarse u)
         ∧ (age < 40 → last = .next s)))
  ∧ ∀ (p : RunParams) (t : Tracker) (r : EdgeRun) (rest : List EdgeRun),
      let period : Rat := (10 ^ 15 : Nat) / (p.nominal : Nat)
      let good (x : Rat) := 7 * period ≤ 8 * x ∧ 8 * x ≤ 9 * period
      let u := track p [r] t
      track p [] t = t ∧ track p (r :: rest) t = track p rest u
      ∧ (r.falling ≠ p.falling ∨ r.count = 0 → u = t)
      ∧ (r.falling = p.falling → r.count ≠ 0 →
          u.last = some (r.first + (r.count - 1 : Nat) * r.period)
          ∧ (2 ≤ r.count → ¬ good r.period → u.good = 0)
          ∧ (r.count < 2 ∨ good r.period →
              (∀ e, t.last = some e → good (r.first - e) → u.good = min 1024 (t.good + 1 + (r.count - 1)))
              ∧ ((∀ e, t.last = some e → ¬ good (r.first - e)) → u.good = min 1024 (r.count - 1))))

/-- Discard and capture (R89 to R92, R105, R110, R111, R144), on the edges of the chosen polarity that a row carries
(log 35): a period out of tolerance, or an edge not come by 9/8 of the nominal period, ends the run NO_LOCK; discard
remaining falls by 1 at each edge, and at the one that brings it to 0 the capture begins, with 60 ticks for a CHECK
job; a sample, taken at the first edge after the discard and then at each stride-th edge, with the two edges that
follow, is counted, accumulated and written to the ring in its raw form, which keeps the latest 4,096, and to the
capture memory; the last one, or a CHECK job's 60th tick, begins the reduction with its ticks. The first edges of a
list of runs, and the periods of one. -/
def Obligations.CaptureSteps : Prop :=
  let allTimes (runs : List EdgeRun) : List Rat :=
    runs.flatMap fun r => (List.range r.count).map fun k : Nat => r.first + (k : Rat) * r.period
  let final (r : EdgeRun) : Rat := r.first + (r.count - 1 : Nat) * r.period
  (∀ (s : State) (l : Lane) (j : Job) (p : RunParams), s.pins.resetn = true → laneJob s l = some j →
    paramsOf s j.work = some p → (s.lane l).run.kind = some j.work.kind →
    let c := s.lane l
    let ended : Host.Outcome State Fault Refusal := .next (endJob l j (match j.work with
      | .measure _ => bareEnd .noLock c.run.coarse
      | .check _ => ⟨.normal, c.run.coarse, .none, [], .none, some .bad⟩) .idle s)
    let phase := match j.work with
      | .measure x => ((s.plan x).map Plan.hasPhase).getD false
      | .check _ => true
    let reducing (n : Nat) (c : LaneContext) : LaneContext :=
      { c with state := .reducing, run := { c.run with
          capture := ⟨0, false⟩, reduce := ⟨(n + 4095) / 4096 + (if phase then 1 else 0), false⟩ } }
    let period : Rat := (10 ^ 15 : Nat) / (p.nominal : Nat)
    let chosen (edges : List EdgeRun) := edges.filter fun r => r.falling == p.falling && 0 < r.count
    (c.state = .discarding ∨ c.state = .capturing → ∀ (edges : List EdgeRun) (time : Rat),
      let lost := unbroken p.nominal none (chosen edges) = false
        ∨ ∃ r, (chosen edges).getLast? = some r ∧ 9 * period < 8 * (time - final r)
      let done := exec (.lossOfLock ⟨l, edges, time⟩) s
      (lost → done = ended) ∧ (¬ lost → done = .next s))
    ∧ (c.state = .discarding → ∀ (edges : List EdgeRun) (time : Rat),
        let done := exec (.discardComplete ⟨l, edges, time⟩) s
        let passing := firstEdges c.run.discard (chosen edges)
        let n := (passing.map (·.count)).sum
        let steady := unbroken p.nominal c.run.tracker.last passing = true
        let left (c : LaneContext) : LaneContext := { c with run := { c.run with
          discard := c.run.discard - n, tracker := track p passing c.run.tracker } }
        (¬ steady → done = ended)
        ∧ (steady → n < c.run.discard → done = .next (s.modLane l left))
        ∧ (steady → n = c.run.discard → done = .next (s.modLane l fun c =>
            { left c with state := .capturing, run := { (left c).run with
                capture := if j.work.kind = .check then ⟨60, false⟩ else ⟨0, false⟩ } })))
    ∧ (c.state = .capturing → c.run.capture.due = true →
        exec (.checkCaptureEnd l) s = .next (s.modLane l (reducing c.captured)))
    ∧ (c.state = .capturing → ∀ (edges : List EdgeRun) (since time : Rat),
        let done := exec (.sampleComplete l edges since time) s
        let k := if c.captured = 0 then 1 else p.stride
        let upTo := firstEdges (k + 2) (chosen edges)
        let steady := unbroken p.nominal c.run.tracker.last upTo = true
        (¬ steady → done = ended)
        ∧ (steady → (allTimes upTo).length < k + 2 → done = .next s)
        ∧ ∀ t a b : Rat, steady → (allTimes upTo).drop (k - 1) = [t, a, b] →
            let first := a - t
            let second := b - a
            let n := c.captured + 1
            let held := (c.ring.map (·.samples)).getD []
            let raw : RawSample :=
              ⟨clampInt (-2147483648) 2147483647 (roundHalfAway (t - (c.memory.head?.map (·.stamp)).getD t
                  - (c.captured * p.stride : Nat) * (period / (1 + (c.run.coarse.getD 0 : Rat) / (10 ^ 9 : Nat))))),
                roundHalfAway (first - period), roundHalfAway (second - period)⟩
            let took (c : LaneContext) : LaneContext :=
              { c with
                run := { c.run with tracker := { c.run.tracker with last := some t } }
                captured := n
                acc := some (match c.acc with
                  | none => ⟨raw.timeError, raw.timeError, raw.firstDev, raw.firstDev * raw.firstDev⟩
                  | some a => ⟨min a.minError raw.timeError, max a.maxError raw.timeError, a.sumDev + raw.firstDev,
                      a.sumDevSq + raw.firstDev * raw.firstDev⟩)
                ring := some ⟨j.id, n - 4096, (held ++ [raw]).drop (held.length + 1 - 4096)⟩
                memory := c.memory ++ [⟨t, first, second⟩] }
            (n < p.samples → done = .next (s.modLane l took))
            ∧ (p.samples ≤ n → done = .next (s.modLane l fun c => reducing n (took c)))))
  ∧ (∀ (n : Nat) (runs : List EdgeRun), (∀ r ∈ runs, 0 < r.count) →
      allTimes (firstEdges n runs) = (allTimes runs).take n)
  ∧ ∀ (nominal : Nat) (last : Option Rat) (runs : List EdgeRun),
      let period : Rat := (10 ^ 15 : Nat) / (nominal : Nat)
      let good (x : Rat) := 7 * period ≤ 8 * x ∧ 8 * x ≤ 9 * period
      unbroken nominal last runs = true ↔
        (∀ r ∈ runs, 2 ≤ r.count → good r.period)
        ∧ (∀ before a b after, runs = before ++ a :: b :: after → good (b.first - final a))
        ∧ ∀ e r rest, last = some e → runs = r :: rest → good (r.first - e)

/-- The end of the reduction ends the job NORMAL (R92, R94, R95): a MEASURE job with FREQ and exactly the figures of its
plan's metric set, each rms figure corrected against the path entry as it stands where the plan asks for it, each
rounded and brought into its range, and a level for each spot (R112, R118 to R123); a CHECK job with FREQ of the tone, the
four floors, one beyond the range being absent, PHASE over bins 2 to 511, and the rating of its path by the TIE floor
(R164, R165). What the measures are made of is FigureRoundsAndCorrects. A measure that the spec does not define for the
samples is a free value, and the count of free values advances by 16, the model's own (log 17). The budget's expiry ends
the job TIMEOUT, but for a lane in REDUCING, which goes on (R93; for a CHECK job log 33). -/
def Obligations.ReductionAndBudgetEnd : Prop :=
  ∀ (s : State) (l : Lane) (j : Job) (p : RunParams), s.pins.resetn = true → laneJob s l = some j →
    paramsOf s j.work = some p →
    let c := s.lane l
    let e := s.path j.site l
    let m := measuresOf p c.memory
    let res := captureResiduals c.memory
    let free (k : Nat) : Rat := Config.freeRat (s.free + k)
    let freq : Int := clampInt (-2147483648) 2147483647 (roundHalfAway (m.freq.getD (free 0)))
    let plain (v : Int) : Figure :=
      if 2147483647 < v then ⟨2147483647, ⟨true, false, false, false⟩⟩ else ⟨v, ⟨false, false, false, false⟩⟩
    let ends (x : EndReport) : Prop :=
      exec (.reductionEnd l) s = .next { endJob l j x .idle s with free := s.free + 16 }
    (c.state = .reducing → c.run.reduce.due = true →
      (∀ x r, j.work = .measure x → s.plan x = some r →
        let rms (floor : Option Nat) (sq : Rat) : Figure :=
          if r.flags.getLsbD 1 then correctedFigure e.rating floor sq else plain (roundSqrt sq)
        let pp (q : Rat) : Figure := plain (roundHalfAway q)
        let inSet (bit : Nat) (f : Figure) : Option Figure := if r.metrics.getLsbD bit then some f else none
        let band := r.band.getD (0, 0)
        ends
          { code := .normal
            freqError := some freq
            figures :=
              { periodRms := inSet 0 (rms e.floors.period (m.periodSq.getD (free 1)))
                periodPp := inSet 0 (pp (m.periodPp.getD (free 2)))
                c2cRms := inSet 1 (rms e.floors.c2c (m.c2cSq.getD (free 3)))
                c2cPp := inSet 1 (pp (m.c2cPp.getD (free 4)))
                tieRms := inSet 2 (rms e.floors.tie (m.tieSq.getD (free 5)))
                tiePp := inSet 2 (pp (m.tiePp.getD (free 6)))
                phaseInt := inSet 3 (rms e.floors.phase
                  ((phaseSquare p res (nearestBin p band.1) (nearestBin p band.2)).getD (free 7))) }
            spots := if r.metrics.getLsbD 3 then
                r.spots.mapIdx fun i x => spotLevelOf p x ((binDensity p res (nearestBin p x)).getD (free (8 + i)))
              else []
            floors := ⟨none, none, none, none⟩
            newRating := none })
      ∧ (∀ target, j.work = .check target →
        let floor (sq : Rat) : Option Nat := if 2147483647 < roundSqrt sq then none else some (roundSqrt sq)
        let tie := floor (m.tieSq.getD (free 1))
        ends
          { code := .normal
            freqError := some freq
            figures := ⟨none, none, none, none, none, none, none⟩
            spots := []
            floors := ⟨tie, floor (m.periodSq.getD (free 2)), floor (m.c2cSq.getD (free 3)),
              floor ((phaseSquare p res 2 511).getD (free 4))⟩
            newRating := some (match tie with
              | none => .bad
              | some f => if f ≤ s.link.settings.floorGood then .good
                  else if f ≤ s.link.settings.floorMarginal then .marginal else .bad) }))
    ∧ (isMeasuring c.state = true → c.run.budget.due = true →
        (c.state ≠ .reducing →
          exec (.budgetExpiry l) s = .next (endJob l j (bareEnd .timeout c.run.coarse) .idle s))
        ∧ (c.state = .reducing →
          exec (.budgetExpiry l) s = .next (s.modLane l fun c =>
            { c with run := { c.run with budget := ⟨0, false⟩ } })))

/-! ### Figures -/

/-- The figures of chapter 6. Residuals, FREQ and TIE from the least-squares line, by its normal equations (R113, R114);
PERIOD and C2C over the samples (R115, R116). The density of a bin is the mean over the half-overlapped segments of
1,024 residuals of twice the Hann-weighted transform's square over rate and 384, the weight and the turn multiplied out,
with the cosines and sines of log 15; PHASE_INT's square sums densities by the resolution (R117, R119). The bin nearest an
offset, the lower of two; a level is 100 log10 of half the phase density, rounded, and SATURATED at density 0 (R118).
Rounding is to the nearest, halves away from zero (R120). An rms figure with FLOOR_CORRECT on (R120, R122): over an
UNCHECKED path or one without the floor it is the rounded root with NO_FLOOR; above the floor it is the rounded root of
the difference of the squares with FLOOR_CORRECTED; at or below it 0 with BELOW_FLOOR; a value above the signed 32-bit
range is its upper end with SATURATED. -/
def Obligations.FigureRoundsAndCorrects : Prop :=
  let spread (l : List Rat) (v : Rat) : Prop :=
    ∃ hi ∈ l, ∃ lo ∈ l, v = hi - lo ∧ ∀ x ∈ l, lo ≤ x ∧ x ≤ hi
  (∀ (p : RunParams) (memory : List Sample),
    let m := measuresOf p memory
    let n : Rat := (memory.length : Nat)
    (2 ≤ memory.length → ∃ slope at0 : Rat,
      let res := memory.mapIdx fun k x => x.stamp - (at0 + slope * (k : Rat))
      res.sum = 0 ∧ (res.mapIdx fun k r => (k : Rat) * r).sum = 0 ∧ captureResiduals memory = res
      ∧ (slope ≠ 0 → m.freq = some
          (((p.stride : Nat) * (((10 ^ 15 : Nat) : Rat) / (p.nominal : Nat)) / slope - 1) * (10 ^ 9 : Nat)))
      ∧ m.tieSq = some ((res.map fun r => r * r).sum / n) ∧ ∃ v, m.tiePp = some v ∧ spread res v)
    ∧ (1 ≤ memory.length →
        let first := memory.map (·.first)
        let diff := memory.map fun x => x.second - x.first
        m.periodSq = some ((first.map fun x => (x - first.sum / n) * (x - first.sum / n)).sum / n)
        ∧ (∃ v, m.periodPp = some v ∧ spread first v)
        ∧ m.c2cSq = some ((diff.map fun x => x * x).sum / n) ∧ ∃ v, m.c2cPp = some v ∧ spread diff v))
  ∧ (∀ (p : RunParams) (res : List Rat), 1024 ≤ res.length →
      let rate : Rat := (p.nominal : Rat) / (p.stride : Rat)
      let k := (res.length - 1024) / 512 + 1
      (∀ m, binDensity p res m = some (((List.range k).map fun i =>
          2 * binPower ((res.drop (512 * i)).take 1024) m / (rate * 384)).sum / (k : Rat)))
      ∧ ∀ lo hi, phaseSquare p res lo hi = some (((List.range (hi + 1 - lo)).map fun i =>
          (binDensity p res (lo + i)).getD 0 * (rate / 1024)).sum))
  ∧ (∀ (seg : List Rat) (m : Nat), seg.length = 1024 → 1 ≤ m → m ≤ 511 →
      let turn (f : Nat → Rat) (e : Nat) : Rat := if e % 1024 < 512 then f (e % 1024) else -f (e % 1024 - 512)
      let part (f : Nat → Rat) : Rat := (seg.mapIdx fun j r => r * (turn f (1024 * 1024 - j * m) / 2
        - turn f (1024 * 1024 - j * (m - 1)) / 4 - turn f (1024 * 1024 - j * (m + 1)) / 4)).sum
      binPower seg m = part halfCos * part halfCos + part halfSin * part halfSin)
  ∧ (∀ (p : RunParams) (x : Nat) (density : Rat), 1 ≤ p.nominal →
      let b := nearestBin p x
      2 * (x * p.stride * 1024) ≤ (2 * b + 1) * p.nominal
      ∧ (b ≠ 0 → (2 * b - 1) * p.nominal < 2 * (x * p.stride * 1024))
      ∧ (density ≤ 0 → spotLevelOf p x density = ⟨x, -2147483648, true⟩)
      ∧ (0 < density →
          let w : Rat := 2 * piRat * (p.nominal : Nat)
          let half : Rat := w * w * density / (2 * (10 ^ 30 : Nat))
          ∃ v : Int, (10 : Rat) ^ (2 * v - 1) ≤ half ^ 200 ∧ half ^ 200 < (10 : Rat) ^ (2 * v + 1)
            ∧ spotLevelOf p x density = ⟨x, clampInt (-2147483648) 2147483647 v,
                decide (v < -2147483648 ∨ 2147483647 < v)⟩))
  ∧ (∀ q : Rat, let d : Rat := (roundHalfAway q : Rat) - q
      2 * |d| ≤ 1 ∧ (2 * |d| = 1 → |q| < |(roundHalfAway q : Rat)|))
  ∧ (∀ (x : Rating) (floor : Option Nat) (sq : Rat), 0 ≤ sq →
    let f := correctedFigure x floor sq
    let v (r : Nat) : Int := if 2147483647 < r then 2147483647 else r
    let sat (r : Nat) : Bool := decide (2147483647 < r)
    match floor with
    | none => f = ⟨v (roundSqrt sq), ⟨sat (roundSqrt sq), false, false, true⟩⟩
    | some n =>
      (x = .unchecked → f = ⟨v (roundSqrt sq), ⟨sat (roundSqrt sq), false, false, true⟩⟩)
      ∧ (x ≠ .unchecked → ((n * n : Nat) : Rat) < sq →
          let d := roundSqrt (sq - ((n * n : Nat) : Rat))
          f = ⟨v d, ⟨sat d, true, false, false⟩⟩)
      ∧ (x ≠ .unchecked → sq ≤ ((n * n : Nat) : Rat) → f = ⟨0, ⟨false, false, true, false⟩⟩))
  ∧ ∀ sq : Rat, 0 ≤ sq →
      let r : Rat := (roundSqrt sq : Nat)
      4 * sq < (2 * r + 1) * (2 * r + 1) ∧ (roundSqrt sq ≠ 0 → (2 * r - 1) * (2 * r - 1) ≤ 4 * sq)

/-! ### Invariants that every step keeps -/

/-- Every step keeps what R1, R2 and R6 say of the site table: the supply is ON exactly in SETTLING and READY, the
contact fits the state, settle remaining is 0 outside SETTLING, attached kind goes with attached lane, and a
POWER_PENDING site stands in an attached quad. -/
def Obligations.SiteTableKept : Prop :=
  Kept fun s => SupplyFollowsState s ∧ SiteFieldsAgree s ∧ ContactFitsState s ∧ PendingQuadIsAttached s

/-- Every step keeps a ring that holds the latest samples of the run, at most 4,096, present exactly with a sample
(R91, R144), progress and tick source in agreement with the reference state (R26 to R29), and the path entries' fields
in agreement with their ratings (R161, R165, R166). -/
def Obligations.RecordsKept : Prop := Kept RingFitsCount ∧ Kept ReferenceAgrees ∧ Kept PathEntriesAgree

/-- Every step keeps the settings in their ranges, and every DEFINED plan and limit set valid under them (R22, R41,
R46, R48, R154, R169). -/
def Obligations.SettingsAndPlansKept : Prop := Kept fun s => SettingsInRange s ∧ StoredPlansValid s

/-- Every step keeps the Link Port's receiver, reply and gap countdown in agreement, and no alert mask without its
flag (R174, R175, R178, R184). -/
def Obligations.LinkKept : Prop := Kept fun s => LinkAgrees s ∧ MasksHaveFlags s

/-- Every step keeps the job list, the slots, the lanes and the sites in agreement: distinct ids and handles,
RESERVED slots exactly those of the listed jobs, entries of one site that are CHECK entries for distinct lanes or
one alone, and every attachment told alike by lane, site and job (R9, R61, R62, R71, R84). -/
def Obligations.JobsAndAttachmentsKept : Prop :=
  Kept fun s => SlotsFitJobs s ∧ EntriesFitSites s ∧ AttachmentsAgree s

/-- Every step keeps, beside those, the due count below 3 in a lane that measures or idles, ring holds only on lanes
out of the measuring states with their ring content present, and measuring, idle and calibrating lanes only under a
LOCKED reference (R31, R34, R37, R150). -/
def Obligations.LanesKept : Prop :=
  Kept fun s => SlotsFitJobs s ∧ AttachmentsAgree s ∧ DueCountBounded s ∧ HoldFitsLane s ∧ LanesNeedReference s

/-- Every step keeps, beside those, the completion queue: the handles of the FILLED slots, each once (R136). -/
def Obligations.CompletionQueueKept : Prop :=
  Kept fun s => SlotsFitJobs s ∧ AttachmentsAgree s ∧ QueueNamesFilled s

end
end

