-- ==== Sys2Proof/Laws/State.lean ====
section
/-!
SUPPORT. One lemma for each field of State and each named update of Ops, and reading a record after an update.
-/
namespace Sys2Proof.Machine

/-! ### modSite -/

@[simp] theorem sites_modSite (s : State) (i : Site) (f : SiteRecord → SiteRecord) : (s.modSite i f).sites = s.sites.set i (f s.sites[i]) := rfl
@[simp] theorem quiet_modSite (s : State) (i : Site) (f : SiteRecord → SiteRecord) : (s.modSite i f).quiet = s.quiet := rfl
@[simp] theorem ref_modSite (s : State) (i : Site) (f : SiteRecord → SiteRecord) : (s.modSite i f).ref = s.ref := rfl
@[simp] theorem store_modSite (s : State) (i : Site) (f : SiteRecord → SiteRecord) : (s.modSite i f).store = s.store := rfl
@[simp] theorem jc_modSite (s : State) (i : Site) (f : SiteRecord → SiteRecord) : (s.modSite i f).jc = s.jc := rfl
@[simp] theorem lanes_modSite (s : State) (i : Site) (f : SiteRecord → SiteRecord) : (s.modSite i f).lanes = s.lanes := rfl
@[simp] theorem results_modSite (s : State) (i : Site) (f : SiteRecord → SiteRecord) : (s.modSite i f).results = s.results := rfl
@[simp] theorem paths_modSite (s : State) (i : Site) (f : SiteRecord → SiteRecord) : (s.modSite i f).paths = s.paths := rfl
@[simp] theorem link_modSite (s : State) (i : Site) (f : SiteRecord → SiteRecord) : (s.modSite i f).link = s.link := rfl
@[simp] theorem pins_modSite (s : State) (i : Site) (f : SiteRecord → SiteRecord) : (s.modSite i f).pins = s.pins := rfl
@[simp] theorem laneOrder_modSite (s : State) (i : Site) (f : SiteRecord → SiteRecord) : (s.modSite i f).laneOrder = s.laneOrder := rfl
@[simp] theorem free_modSite (s : State) (i : Site) (f : SiteRecord → SiteRecord) : (s.modSite i f).free = s.free := rfl
@[simp] theorem pending_modSite (s : State) (i : Site) (f : SiteRecord → SiteRecord) : (s.modSite i f).pending = s.pending := rfl

/-! ### mapSites -/

@[simp] theorem sites_mapSites (s : State) (f : Site → SiteRecord → SiteRecord) : (s.mapSites f).sites = Vector.ofFn fun i => f i s.sites[i] := by
  delta State.mapSites; rfl
@[simp] theorem quiet_mapSites (s : State) (f : Site → SiteRecord → SiteRecord) : (s.mapSites f).quiet = s.quiet := by
  delta State.mapSites; rfl
@[simp] theorem ref_mapSites (s : State) (f : Site → SiteRecord → SiteRecord) : (s.mapSites f).ref = s.ref := by
  delta State.mapSites; rfl
@[simp] theorem store_mapSites (s : State) (f : Site → SiteRecord → SiteRecord) : (s.mapSites f).store = s.store := by
  delta State.mapSites; rfl
@[simp] theorem jc_mapSites (s : State) (f : Site → SiteRecord → SiteRecord) : (s.mapSites f).jc = s.jc := by
  delta State.mapSites; rfl
@[simp] theorem lanes_mapSites (s : State) (f : Site → SiteRecord → SiteRecord) : (s.mapSites f).lanes = s.lanes := by
  delta State.mapSites; rfl
@[simp] theorem results_mapSites (s : State) (f : Site → SiteRecord → SiteRecord) : (s.mapSites f).results = s.results := by
  delta State.mapSites; rfl
@[simp] theorem paths_mapSites (s : State) (f : Site → SiteRecord → SiteRecord) : (s.mapSites f).paths = s.paths := by
  delta State.mapSites; rfl
@[simp] theorem link_mapSites (s : State) (f : Site → SiteRecord → SiteRecord) : (s.mapSites f).link = s.link := by
  delta State.mapSites; rfl
@[simp] theorem pins_mapSites (s : State) (f : Site → SiteRecord → SiteRecord) : (s.mapSites f).pins = s.pins := by
  delta State.mapSites; rfl
@[simp] theorem laneOrder_mapSites (s : State) (f : Site → SiteRecord → SiteRecord) : (s.mapSites f).laneOrder = s.laneOrder := by
  delta State.mapSites; rfl
@[simp] theorem free_mapSites (s : State) (f : Site → SiteRecord → SiteRecord) : (s.mapSites f).free = s.free := by
  delta State.mapSites; rfl
@[simp] theorem pending_mapSites (s : State) (f : Site → SiteRecord → SiteRecord) : (s.mapSites f).pending = s.pending := by
  delta State.mapSites; rfl

/-! ### setQuiet -/

@[simp] theorem sites_setQuiet (s : State) (q : Quad) (c : Countdown) : (s.setQuiet q c).sites = s.sites := rfl
@[simp] theorem quiet_setQuiet (s : State) (q : Quad) (c : Countdown) : (s.setQuiet q c).quiet = s.quiet.set q c := rfl
@[simp] theorem ref_setQuiet (s : State) (q : Quad) (c : Countdown) : (s.setQuiet q c).ref = s.ref := rfl
@[simp] theorem store_setQuiet (s : State) (q : Quad) (c : Countdown) : (s.setQuiet q c).store = s.store := rfl
@[simp] theorem jc_setQuiet (s : State) (q : Quad) (c : Countdown) : (s.setQuiet q c).jc = s.jc := rfl
@[simp] theorem lanes_setQuiet (s : State) (q : Quad) (c : Countdown) : (s.setQuiet q c).lanes = s.lanes := rfl
@[simp] theorem results_setQuiet (s : State) (q : Quad) (c : Countdown) : (s.setQuiet q c).results = s.results := rfl
@[simp] theorem paths_setQuiet (s : State) (q : Quad) (c : Countdown) : (s.setQuiet q c).paths = s.paths := rfl
@[simp] theorem link_setQuiet (s : State) (q : Quad) (c : Countdown) : (s.setQuiet q c).link = s.link := rfl
@[simp] theorem pins_setQuiet (s : State) (q : Quad) (c : Countdown) : (s.setQuiet q c).pins = s.pins := rfl
@[simp] theorem laneOrder_setQuiet (s : State) (q : Quad) (c : Countdown) : (s.setQuiet q c).laneOrder = s.laneOrder := rfl
@[simp] theorem free_setQuiet (s : State) (q : Quad) (c : Countdown) : (s.setQuiet q c).free = s.free := rfl
@[simp] theorem pending_setQuiet (s : State) (q : Quad) (c : Countdown) : (s.setQuiet q c).pending = s.pending := rfl

/-! ### mapQuiet -/

@[simp] theorem sites_mapQuiet (s : State) (f : Quad → Countdown → Countdown) : (s.mapQuiet f).sites = s.sites := rfl
@[simp] theorem quiet_mapQuiet (s : State) (f : Quad → Countdown → Countdown) : (s.mapQuiet f).quiet = Vector.ofFn fun q => f q s.quiet[q] := rfl
@[simp] theorem ref_mapQuiet (s : State) (f : Quad → Countdown → Countdown) : (s.mapQuiet f).ref = s.ref := rfl
@[simp] theorem store_mapQuiet (s : State) (f : Quad → Countdown → Countdown) : (s.mapQuiet f).store = s.store := rfl
@[simp] theorem jc_mapQuiet (s : State) (f : Quad → Countdown → Countdown) : (s.mapQuiet f).jc = s.jc := rfl
@[simp] theorem lanes_mapQuiet (s : State) (f : Quad → Countdown → Countdown) : (s.mapQuiet f).lanes = s.lanes := rfl
@[simp] theorem results_mapQuiet (s : State) (f : Quad → Countdown → Countdown) : (s.mapQuiet f).results = s.results := rfl
@[simp] theorem paths_mapQuiet (s : State) (f : Quad → Countdown → Countdown) : (s.mapQuiet f).paths = s.paths := rfl
@[simp] theorem link_mapQuiet (s : State) (f : Quad → Countdown → Countdown) : (s.mapQuiet f).link = s.link := rfl
@[simp] theorem pins_mapQuiet (s : State) (f : Quad → Countdown → Countdown) : (s.mapQuiet f).pins = s.pins := rfl
@[simp] theorem laneOrder_mapQuiet (s : State) (f : Quad → Countdown → Countdown) : (s.mapQuiet f).laneOrder = s.laneOrder := rfl
@[simp] theorem free_mapQuiet (s : State) (f : Quad → Countdown → Countdown) : (s.mapQuiet f).free = s.free := rfl
@[simp] theorem pending_mapQuiet (s : State) (f : Quad → Countdown → Countdown) : (s.mapQuiet f).pending = s.pending := rfl

/-! ### modLane -/

@[simp] theorem sites_modLane (s : State) (l : Lane) (f : LaneContext → LaneContext) : (s.modLane l f).sites = s.sites := rfl
@[simp] theorem quiet_modLane (s : State) (l : Lane) (f : LaneContext → LaneContext) : (s.modLane l f).quiet = s.quiet := rfl
@[simp] theorem ref_modLane (s : State) (l : Lane) (f : LaneContext → LaneContext) : (s.modLane l f).ref = s.ref := rfl
@[simp] theorem store_modLane (s : State) (l : Lane) (f : LaneContext → LaneContext) : (s.modLane l f).store = s.store := rfl
@[simp] theorem jc_modLane (s : State) (l : Lane) (f : LaneContext → LaneContext) : (s.modLane l f).jc = s.jc := rfl
@[simp] theorem lanes_modLane (s : State) (l : Lane) (f : LaneContext → LaneContext) : (s.modLane l f).lanes = s.lanes.set l (f s.lanes[l]) := rfl
@[simp] theorem results_modLane (s : State) (l : Lane) (f : LaneContext → LaneContext) : (s.modLane l f).results = s.results := rfl
@[simp] theorem paths_modLane (s : State) (l : Lane) (f : LaneContext → LaneContext) : (s.modLane l f).paths = s.paths := rfl
@[simp] theorem link_modLane (s : State) (l : Lane) (f : LaneContext → LaneContext) : (s.modLane l f).link = s.link := rfl
@[simp] theorem pins_modLane (s : State) (l : Lane) (f : LaneContext → LaneContext) : (s.modLane l f).pins = s.pins := rfl
@[simp] theorem laneOrder_modLane (s : State) (l : Lane) (f : LaneContext → LaneContext) : (s.modLane l f).laneOrder = s.laneOrder := rfl
@[simp] theorem free_modLane (s : State) (l : Lane) (f : LaneContext → LaneContext) : (s.modLane l f).free = s.free := rfl
@[simp] theorem pending_modLane (s : State) (l : Lane) (f : LaneContext → LaneContext) : (s.modLane l f).pending = s.pending := rfl

/-! ### mapLanes -/

@[simp] theorem sites_mapLanes (s : State) (f : LaneContext → LaneContext) : (s.mapLanes f).sites = s.sites := rfl
@[simp] theorem quiet_mapLanes (s : State) (f : LaneContext → LaneContext) : (s.mapLanes f).quiet = s.quiet := rfl
@[simp] theorem ref_mapLanes (s : State) (f : LaneContext → LaneContext) : (s.mapLanes f).ref = s.ref := rfl
@[simp] theorem store_mapLanes (s : State) (f : LaneContext → LaneContext) : (s.mapLanes f).store = s.store := rfl
@[simp] theorem jc_mapLanes (s : State) (f : LaneContext → LaneContext) : (s.mapLanes f).jc = s.jc := rfl
@[simp] theorem lanes_mapLanes (s : State) (f : LaneContext → LaneContext) : (s.mapLanes f).lanes = Vector.ofFn fun l => f s.lanes[l] := rfl
@[simp] theorem results_mapLanes (s : State) (f : LaneContext → LaneContext) : (s.mapLanes f).results = s.results := rfl
@[simp] theorem paths_mapLanes (s : State) (f : LaneContext → LaneContext) : (s.mapLanes f).paths = s.paths := rfl
@[simp] theorem link_mapLanes (s : State) (f : LaneContext → LaneContext) : (s.mapLanes f).link = s.link := rfl
@[simp] theorem pins_mapLanes (s : State) (f : LaneContext → LaneContext) : (s.mapLanes f).pins = s.pins := rfl
@[simp] theorem laneOrder_mapLanes (s : State) (f : LaneContext → LaneContext) : (s.mapLanes f).laneOrder = s.laneOrder := rfl
@[simp] theorem free_mapLanes (s : State) (f : LaneContext → LaneContext) : (s.mapLanes f).free = s.free := rfl
@[simp] theorem pending_mapLanes (s : State) (f : LaneContext → LaneContext) : (s.mapLanes f).pending = s.pending := rfl

/-! ### modRef -/

@[simp] theorem sites_modRef (s : State) (f : Reference → Reference) : (s.modRef f).sites = s.sites := rfl
@[simp] theorem quiet_modRef (s : State) (f : Reference → Reference) : (s.modRef f).quiet = s.quiet := rfl
@[simp] theorem ref_modRef (s : State) (f : Reference → Reference) : (s.modRef f).ref = f s.ref := rfl
@[simp] theorem store_modRef (s : State) (f : Reference → Reference) : (s.modRef f).store = s.store := rfl
@[simp] theorem jc_modRef (s : State) (f : Reference → Reference) : (s.modRef f).jc = s.jc := rfl
@[simp] theorem lanes_modRef (s : State) (f : Reference → Reference) : (s.modRef f).lanes = s.lanes := rfl
@[simp] theorem results_modRef (s : State) (f : Reference → Reference) : (s.modRef f).results = s.results := rfl
@[simp] theorem paths_modRef (s : State) (f : Reference → Reference) : (s.modRef f).paths = s.paths := rfl
@[simp] theorem link_modRef (s : State) (f : Reference → Reference) : (s.modRef f).link = s.link := rfl
@[simp] theorem pins_modRef (s : State) (f : Reference → Reference) : (s.modRef f).pins = s.pins := rfl
@[simp] theorem laneOrder_modRef (s : State) (f : Reference → Reference) : (s.modRef f).laneOrder = s.laneOrder := rfl
@[simp] theorem free_modRef (s : State) (f : Reference → Reference) : (s.modRef f).free = s.free := rfl
@[simp] theorem pending_modRef (s : State) (f : Reference → Reference) : (s.modRef f).pending = s.pending := rfl

/-! ### modStore -/

@[simp] theorem sites_modStore (s : State) (f : PlanStore → PlanStore) : (s.modStore f).sites = s.sites := rfl
@[simp] theorem quiet_modStore (s : State) (f : PlanStore → PlanStore) : (s.modStore f).quiet = s.quiet := rfl
@[simp] theorem ref_modStore (s : State) (f : PlanStore → PlanStore) : (s.modStore f).ref = s.ref := rfl
@[simp] theorem store_modStore (s : State) (f : PlanStore → PlanStore) : (s.modStore f).store = f s.store := rfl
@[simp] theorem jc_modStore (s : State) (f : PlanStore → PlanStore) : (s.modStore f).jc = s.jc := rfl
@[simp] theorem lanes_modStore (s : State) (f : PlanStore → PlanStore) : (s.modStore f).lanes = s.lanes := rfl
@[simp] theorem results_modStore (s : State) (f : PlanStore → PlanStore) : (s.modStore f).results = s.results := rfl
@[simp] theorem paths_modStore (s : State) (f : PlanStore → PlanStore) : (s.modStore f).paths = s.paths := rfl
@[simp] theorem link_modStore (s : State) (f : PlanStore → PlanStore) : (s.modStore f).link = s.link := rfl
@[simp] theorem pins_modStore (s : State) (f : PlanStore → PlanStore) : (s.modStore f).pins = s.pins := rfl
@[simp] theorem laneOrder_modStore (s : State) (f : PlanStore → PlanStore) : (s.modStore f).laneOrder = s.laneOrder := rfl
@[simp] theorem free_modStore (s : State) (f : PlanStore → PlanStore) : (s.modStore f).free = s.free := rfl
@[simp] theorem pending_modStore (s : State) (f : PlanStore → PlanStore) : (s.modStore f).pending = s.pending := rfl

/-! ### modJc -/

@[simp] theorem sites_modJc (s : State) (f : JobController → JobController) : (s.modJc f).sites = s.sites := rfl
@[simp] theorem quiet_modJc (s : State) (f : JobController → JobController) : (s.modJc f).quiet = s.quiet := rfl
@[simp] theorem ref_modJc (s : State) (f : JobController → JobController) : (s.modJc f).ref = s.ref := rfl
@[simp] theorem store_modJc (s : State) (f : JobController → JobController) : (s.modJc f).store = s.store := rfl
@[simp] theorem jc_modJc (s : State) (f : JobController → JobController) : (s.modJc f).jc = f s.jc := rfl
@[simp] theorem lanes_modJc (s : State) (f : JobController → JobController) : (s.modJc f).lanes = s.lanes := rfl
@[simp] theorem results_modJc (s : State) (f : JobController → JobController) : (s.modJc f).results = s.results := rfl
@[simp] theorem paths_modJc (s : State) (f : JobController → JobController) : (s.modJc f).paths = s.paths := rfl
@[simp] theorem link_modJc (s : State) (f : JobController → JobController) : (s.modJc f).link = s.link := rfl
@[simp] theorem pins_modJc (s : State) (f : JobController → JobController) : (s.modJc f).pins = s.pins := rfl
@[simp] theorem laneOrder_modJc (s : State) (f : JobController → JobController) : (s.modJc f).laneOrder = s.laneOrder := rfl
@[simp] theorem free_modJc (s : State) (f : JobController → JobController) : (s.modJc f).free = s.free := rfl
@[simp] theorem pending_modJc (s : State) (f : JobController → JobController) : (s.modJc f).pending = s.pending := rfl

/-! ### modResults -/

@[simp] theorem sites_modResults (s : State) (f : ResultStore → ResultStore) : (s.modResults f).sites = s.sites := rfl
@[simp] theorem quiet_modResults (s : State) (f : ResultStore → ResultStore) : (s.modResults f).quiet = s.quiet := rfl
@[simp] theorem ref_modResults (s : State) (f : ResultStore → ResultStore) : (s.modResults f).ref = s.ref := rfl
@[simp] theorem store_modResults (s : State) (f : ResultStore → ResultStore) : (s.modResults f).store = s.store := rfl
@[simp] theorem jc_modResults (s : State) (f : ResultStore → ResultStore) : (s.modResults f).jc = s.jc := rfl
@[simp] theorem lanes_modResults (s : State) (f : ResultStore → ResultStore) : (s.modResults f).lanes = s.lanes := rfl
@[simp] theorem results_modResults (s : State) (f : ResultStore → ResultStore) : (s.modResults f).results = f s.results := rfl
@[simp] theorem paths_modResults (s : State) (f : ResultStore → ResultStore) : (s.modResults f).paths = s.paths := rfl
@[simp] theorem link_modResults (s : State) (f : ResultStore → ResultStore) : (s.modResults f).link = s.link := rfl
@[simp] theorem pins_modResults (s : State) (f : ResultStore → ResultStore) : (s.modResults f).pins = s.pins := rfl
@[simp] theorem laneOrder_modResults (s : State) (f : ResultStore → ResultStore) : (s.modResults f).laneOrder = s.laneOrder := rfl
@[simp] theorem free_modResults (s : State) (f : ResultStore → ResultStore) : (s.modResults f).free = s.free := rfl
@[simp] theorem pending_modResults (s : State) (f : ResultStore → ResultStore) : (s.modResults f).pending = s.pending := rfl

/-! ### modLink -/

@[simp] theorem sites_modLink (s : State) (f : LinkPort → LinkPort) : (s.modLink f).sites = s.sites := rfl
@[simp] theorem quiet_modLink (s : State) (f : LinkPort → LinkPort) : (s.modLink f).quiet = s.quiet := rfl
@[simp] theorem ref_modLink (s : State) (f : LinkPort → LinkPort) : (s.modLink f).ref = s.ref := rfl
@[simp] theorem store_modLink (s : State) (f : LinkPort → LinkPort) : (s.modLink f).store = s.store := rfl
@[simp] theorem jc_modLink (s : State) (f : LinkPort → LinkPort) : (s.modLink f).jc = s.jc := rfl
@[simp] theorem lanes_modLink (s : State) (f : LinkPort → LinkPort) : (s.modLink f).lanes = s.lanes := rfl
@[simp] theorem results_modLink (s : State) (f : LinkPort → LinkPort) : (s.modLink f).results = s.results := rfl
@[simp] theorem paths_modLink (s : State) (f : LinkPort → LinkPort) : (s.modLink f).paths = s.paths := rfl
@[simp] theorem link_modLink (s : State) (f : LinkPort → LinkPort) : (s.modLink f).link = f s.link := rfl
@[simp] theorem pins_modLink (s : State) (f : LinkPort → LinkPort) : (s.modLink f).pins = s.pins := rfl
@[simp] theorem laneOrder_modLink (s : State) (f : LinkPort → LinkPort) : (s.modLink f).laneOrder = s.laneOrder := rfl
@[simp] theorem free_modLink (s : State) (f : LinkPort → LinkPort) : (s.modLink f).free = s.free := rfl
@[simp] theorem pending_modLink (s : State) (f : LinkPort → LinkPort) : (s.modLink f).pending = s.pending := rfl

/-! ### modPins -/

@[simp] theorem sites_modPins (s : State) (f : Pins → Pins) : (s.modPins f).sites = s.sites := rfl
@[simp] theorem quiet_modPins (s : State) (f : Pins → Pins) : (s.modPins f).quiet = s.quiet := rfl
@[simp] theorem ref_modPins (s : State) (f : Pins → Pins) : (s.modPins f).ref = s.ref := rfl
@[simp] theorem store_modPins (s : State) (f : Pins → Pins) : (s.modPins f).store = s.store := rfl
@[simp] theorem jc_modPins (s : State) (f : Pins → Pins) : (s.modPins f).jc = s.jc := rfl
@[simp] theorem lanes_modPins (s : State) (f : Pins → Pins) : (s.modPins f).lanes = s.lanes := rfl
@[simp] theorem results_modPins (s : State) (f : Pins → Pins) : (s.modPins f).results = s.results := rfl
@[simp] theorem paths_modPins (s : State) (f : Pins → Pins) : (s.modPins f).paths = s.paths := rfl
@[simp] theorem link_modPins (s : State) (f : Pins → Pins) : (s.modPins f).link = s.link := rfl
@[simp] theorem pins_modPins (s : State) (f : Pins → Pins) : (s.modPins f).pins = f s.pins := rfl
@[simp] theorem laneOrder_modPins (s : State) (f : Pins → Pins) : (s.modPins f).laneOrder = s.laneOrder := rfl
@[simp] theorem free_modPins (s : State) (f : Pins → Pins) : (s.modPins f).free = s.free := rfl
@[simp] theorem pending_modPins (s : State) (f : Pins → Pins) : (s.modPins f).pending = s.pending := rfl

/-! ### setSlot -/

@[simp] theorem sites_setSlot (s : State) (h : Handle) (x : Slot) : (s.setSlot h x).sites = s.sites := rfl
@[simp] theorem quiet_setSlot (s : State) (h : Handle) (x : Slot) : (s.setSlot h x).quiet = s.quiet := rfl
@[simp] theorem ref_setSlot (s : State) (h : Handle) (x : Slot) : (s.setSlot h x).ref = s.ref := rfl
@[simp] theorem store_setSlot (s : State) (h : Handle) (x : Slot) : (s.setSlot h x).store = s.store := rfl
@[simp] theorem jc_setSlot (s : State) (h : Handle) (x : Slot) : (s.setSlot h x).jc = s.jc := rfl
@[simp] theorem lanes_setSlot (s : State) (h : Handle) (x : Slot) : (s.setSlot h x).lanes = s.lanes := rfl
@[simp] theorem results_setSlot (s : State) (h : Handle) (x : Slot) : (s.setSlot h x).results = { s.results with slots := s.results.slots.set h x } := rfl
@[simp] theorem paths_setSlot (s : State) (h : Handle) (x : Slot) : (s.setSlot h x).paths = s.paths := rfl
@[simp] theorem link_setSlot (s : State) (h : Handle) (x : Slot) : (s.setSlot h x).link = s.link := rfl
@[simp] theorem pins_setSlot (s : State) (h : Handle) (x : Slot) : (s.setSlot h x).pins = s.pins := rfl
@[simp] theorem laneOrder_setSlot (s : State) (h : Handle) (x : Slot) : (s.setSlot h x).laneOrder = s.laneOrder := rfl
@[simp] theorem free_setSlot (s : State) (h : Handle) (x : Slot) : (s.setSlot h x).free = s.free := rfl
@[simp] theorem pending_setSlot (s : State) (h : Handle) (x : Slot) : (s.setSlot h x).pending = s.pending := rfl

/-! ### setPath -/

@[simp] theorem sites_setPath (s : State) (i : Site) (l : Lane) (e : PathEntry) : (s.setPath i l e).sites = s.sites := rfl
@[simp] theorem quiet_setPath (s : State) (i : Site) (l : Lane) (e : PathEntry) : (s.setPath i l e).quiet = s.quiet := rfl
@[simp] theorem ref_setPath (s : State) (i : Site) (l : Lane) (e : PathEntry) : (s.setPath i l e).ref = s.ref := rfl
@[simp] theorem store_setPath (s : State) (i : Site) (l : Lane) (e : PathEntry) : (s.setPath i l e).store = s.store := rfl
@[simp] theorem jc_setPath (s : State) (i : Site) (l : Lane) (e : PathEntry) : (s.setPath i l e).jc = s.jc := rfl
@[simp] theorem lanes_setPath (s : State) (i : Site) (l : Lane) (e : PathEntry) : (s.setPath i l e).lanes = s.lanes := rfl
@[simp] theorem results_setPath (s : State) (i : Site) (l : Lane) (e : PathEntry) : (s.setPath i l e).results = s.results := rfl
@[simp] theorem paths_setPath (s : State) (i : Site) (l : Lane) (e : PathEntry) : (s.setPath i l e).paths = s.paths.set (pathIx i l) e := rfl
@[simp] theorem link_setPath (s : State) (i : Site) (l : Lane) (e : PathEntry) : (s.setPath i l e).link = s.link := rfl
@[simp] theorem pins_setPath (s : State) (i : Site) (l : Lane) (e : PathEntry) : (s.setPath i l e).pins = s.pins := rfl
@[simp] theorem laneOrder_setPath (s : State) (i : Site) (l : Lane) (e : PathEntry) : (s.setPath i l e).laneOrder = s.laneOrder := rfl
@[simp] theorem free_setPath (s : State) (i : Site) (l : Lane) (e : PathEntry) : (s.setPath i l e).free = s.free := rfl
@[simp] theorem pending_setPath (s : State) (i : Site) (l : Lane) (e : PathEntry) : (s.setPath i l e).pending = s.pending := rfl

/-! ### setJobs -/

@[simp] theorem sites_setJobs (s : State) (l : List Job) : (s.setJobs l).sites = s.sites := rfl
@[simp] theorem quiet_setJobs (s : State) (l : List Job) : (s.setJobs l).quiet = s.quiet := rfl
@[simp] theorem ref_setJobs (s : State) (l : List Job) : (s.setJobs l).ref = s.ref := rfl
@[simp] theorem store_setJobs (s : State) (l : List Job) : (s.setJobs l).store = s.store := rfl
@[simp] theorem jc_setJobs (s : State) (l : List Job) : (s.setJobs l).jc = { s.jc with jobs := l } := rfl
@[simp] theorem lanes_setJobs (s : State) (l : List Job) : (s.setJobs l).lanes = s.lanes := rfl
@[simp] theorem results_setJobs (s : State) (l : List Job) : (s.setJobs l).results = s.results := rfl
@[simp] theorem paths_setJobs (s : State) (l : List Job) : (s.setJobs l).paths = s.paths := rfl
@[simp] theorem link_setJobs (s : State) (l : List Job) : (s.setJobs l).link = s.link := rfl
@[simp] theorem pins_setJobs (s : State) (l : List Job) : (s.setJobs l).pins = s.pins := rfl
@[simp] theorem laneOrder_setJobs (s : State) (l : List Job) : (s.setJobs l).laneOrder = s.laneOrder := rfl
@[simp] theorem free_setJobs (s : State) (l : List Job) : (s.setJobs l).free = s.free := rfl
@[simp] theorem pending_setJobs (s : State) (l : List Job) : (s.setJobs l).pending = s.pending := rfl

/-! ### draw -/

@[simp] theorem sites_draw (s : State) : (s.draw).sites = s.sites := rfl
@[simp] theorem quiet_draw (s : State) : (s.draw).quiet = s.quiet := rfl
@[simp] theorem ref_draw (s : State) : (s.draw).ref = s.ref := rfl
@[simp] theorem store_draw (s : State) : (s.draw).store = s.store := rfl
@[simp] theorem jc_draw (s : State) : (s.draw).jc = s.jc := rfl
@[simp] theorem lanes_draw (s : State) : (s.draw).lanes = s.lanes := rfl
@[simp] theorem results_draw (s : State) : (s.draw).results = s.results := rfl
@[simp] theorem paths_draw (s : State) : (s.draw).paths = s.paths := rfl
@[simp] theorem link_draw (s : State) : (s.draw).link = s.link := rfl
@[simp] theorem pins_draw (s : State) : (s.draw).pins = s.pins := rfl
@[simp] theorem laneOrder_draw (s : State) : (s.draw).laneOrder = s.laneOrder := rfl
@[simp] theorem free_draw (s : State) : (s.draw).free = s.free + 1 := rfl
@[simp] theorem pending_draw (s : State) : (s.draw).pending = s.pending := rfl

/-! ### Reading after writing -/

@[simp] theorem site_modSite_self (s : State) (i : Site) (f : SiteRecord → SiteRecord) :
    (s.modSite i f).site i = f (s.site i) := by
  simp [State.site]

theorem site_modSite_of_ne (s : State) (f : SiteRecord → SiteRecord) {i k : Site} (h : k ≠ i) :
    (s.modSite i f).site k = s.site k := by
  have h' : (i : Nat) ≠ k := fun e => h (Fin.ext e.symm)
  simp [State.site, h']

@[simp] theorem site_mapSites (s : State) (f : Site → SiteRecord → SiteRecord) (i : Site) :
    (s.mapSites f).site i = f i (s.site i) := by
  simp [State.site]

@[simp] theorem quietOf_setQuiet_self (s : State) (q : Quad) (c : Countdown) :
    (s.setQuiet q c).quietOf q = c := by
  simp [State.quietOf]

theorem quietOf_setQuiet_of_ne (s : State) (c : Countdown) {q k : Quad} (h : k ≠ q) :
    (s.setQuiet q c).quietOf k = s.quietOf k := by
  have h' : (q : Nat) ≠ k := fun e => h (Fin.ext e.symm)
  simp [State.quietOf, h']

@[simp] theorem lane_modLane_self (s : State) (l : Lane) (f : LaneContext → LaneContext) :
    (s.modLane l f).lane l = f (s.lane l) := by
  simp [State.lane]

theorem lane_modLane_of_ne (s : State) (f : LaneContext → LaneContext) {l k : Lane} (h : k ≠ l) :
    (s.modLane l f).lane k = s.lane k := by
  have h' : (l : Nat) ≠ k := fun e => h (Fin.ext e.symm)
  simp [State.lane, h']

@[simp] theorem lane_mapLanes (s : State) (f : LaneContext → LaneContext) (l : Lane) :
    (s.mapLanes f).lane l = f (s.lane l) := by
  simp [State.lane]

@[simp] theorem slot_setSlot_self (s : State) (h : Handle) (x : Slot) : (s.setSlot h x).slot h = x := by
  simp [State.slot]

theorem slot_setSlot_of_ne (s : State) (x : Slot) {h k : Handle} (e : k ≠ h) :
    (s.setSlot h x).slot k = s.slot k := by
  have e' : (h : Nat) ≠ k := fun z => e (Fin.ext z.symm)
  simp [State.slot, e']

theorem pathIx_injective {i k : Site} {l m : Lane} (h : pathIx i l = pathIx k m) : i = k ∧ l = m := by
  have e := congrArg Fin.val h
  simp only [pathIx] at e
  exact ⟨Fin.ext (by omega), Fin.ext (by omega)⟩

@[simp] theorem path_setPath_self (s : State) (i : Site) (l : Lane) (e : PathEntry) :
    (s.setPath i l e).path i l = e := by
  simp [State.path]

theorem path_setPath_of_ne (s : State) (e : PathEntry) {i k : Site} {l m : Lane} (h : (k, m) ≠ (i, l)) :
    (s.setPath i l e).path k m = s.path k m := by
  have h' : (pathIx i l : Nat) ≠ pathIx k m := fun z => by
    have p := pathIx_injective (Fin.ext z)
    exact h (by rw [p.1, p.2])
  simp [State.path, h']

/-! ### Records that an update of another field leaves -/

@[simp] theorem site_setQuiet (s : State) (q : Quad) (c : Countdown) (k' : Site) :
    (s.setQuiet q c).site k' = s.site k' := rfl
@[simp] theorem site_mapQuiet (s : State) (f : Quad → Countdown → Countdown) (k' : Site) :
    (s.mapQuiet f).site k' = s.site k' := rfl
@[simp] theorem site_modLane (s : State) (l : Lane) (f : LaneContext → LaneContext) (k' : Site) :
    (s.modLane l f).site k' = s.site k' := rfl
@[simp] theorem site_mapLanes (s : State) (f : LaneContext → LaneContext) (k' : Site) :
    (s.mapLanes f).site k' = s.site k' := rfl
@[simp] theorem site_modRef (s : State) (f : Reference → Reference) (k' : Site) :
    (s.modRef f).site k' = s.site k' := rfl
@[simp] theorem site_modStore (s : State) (f : PlanStore → PlanStore) (k' : Site) :
    (s.modStore f).site k' = s.site k' := rfl
@[simp] theorem site_modJc (s : State) (f : JobController → JobController) (k' : Site) :
    (s.modJc f).site k' = s.site k' := rfl
@[simp] theorem site_modResults (s : State) (f : ResultStore → ResultStore) (k' : Site) :
    (s.modResults f).site k' = s.site k' := rfl
@[simp] theorem site_modLink (s : State) (f : LinkPort → LinkPort) (k' : Site) :
    (s.modLink f).site k' = s.site k' := rfl
@[simp] theorem site_modPins (s : State) (f : Pins → Pins) (k' : Site) :
    (s.modPins f).site k' = s.site k' := rfl
@[simp] theorem site_setSlot (s : State) (h : Handle) (x : Slot) (k' : Site) :
    (s.setSlot h x).site k' = s.site k' := rfl
@[simp] theorem site_setPath (s : State) (i : Site) (l : Lane) (e : PathEntry) (k' : Site) :
    (s.setPath i l e).site k' = s.site k' := rfl
@[simp] theorem site_setJobs (s : State) (l : List Job) (k' : Site) : (s.setJobs l).site k' = s.site k' := rfl
@[simp] theorem site_draw (s : State) (k' : Site) : (s.draw).site k' = s.site k' := rfl
@[simp] theorem lane_modSite (s : State) (i : Site) (f : SiteRecord → SiteRecord) (m' : Lane) :
    (s.modSite i f).lane m' = s.lane m' := rfl
@[simp] theorem lane_mapSites (s : State) (f : Site → SiteRecord → SiteRecord) (m' : Lane) :
    (s.mapSites f).lane m' = s.lane m' := by
  delta State.mapSites; rfl
@[simp] theorem lane_setQuiet (s : State) (q : Quad) (c : Countdown) (m' : Lane) :
    (s.setQuiet q c).lane m' = s.lane m' := rfl
@[simp] theorem lane_mapQuiet (s : State) (f : Quad → Countdown → Countdown) (m' : Lane) :
    (s.mapQuiet f).lane m' = s.lane m' := rfl
@[simp] theorem lane_modRef (s : State) (f : Reference → Reference) (m' : Lane) :
    (s.modRef f).lane m' = s.lane m' := rfl
@[simp] theorem lane_modStore (s : State) (f : PlanStore → PlanStore) (m' : Lane) :
    (s.modStore f).lane m' = s.lane m' := rfl
@[simp] theorem lane_modJc (s : State) (f : JobController → JobController) (m' : Lane) :
    (s.modJc f).lane m' = s.lane m' := rfl
@[simp] theorem lane_modResults (s : State) (f : ResultStore → ResultStore) (m' : Lane) :
    (s.modResults f).lane m' = s.lane m' := rfl
@[simp] theorem lane_modLink (s : State) (f : LinkPort → LinkPort) (m' : Lane) :
    (s.modLink f).lane m' = s.lane m' := rfl
@[simp] theorem lane_modPins (s : State) (f : Pins → Pins) (m' : Lane) :
    (s.modPins f).lane m' = s.lane m' := rfl
@[simp] theorem lane_setSlot (s : State) (h : Handle) (x : Slot) (m' : Lane) :
    (s.setSlot h x).lane m' = s.lane m' := rfl
@[simp] theorem lane_setPath (s : State) (i : Site) (l : Lane) (e : PathEntry) (m' : Lane) :
    (s.setPath i l e).lane m' = s.lane m' := rfl
@[simp] theorem lane_setJobs (s : State) (l : List Job) (m' : Lane) : (s.setJobs l).lane m' = s.lane m' := rfl
@[simp] theorem lane_draw (s : State) (m' : Lane) : (s.draw).lane m' = s.lane m' := rfl
@[simp] theorem quietOf_modSite (s : State) (i : Site) (f : SiteRecord → SiteRecord) (r' : Quad) :
    (s.modSite i f).quietOf r' = s.quietOf r' := rfl
@[simp] theorem quietOf_mapSites (s : State) (f : Site → SiteRecord → SiteRecord) (r' : Quad) :
    (s.mapSites f).quietOf r' = s.quietOf r' := by
  delta State.mapSites; rfl
@[simp] theorem quietOf_modLane (s : State) (l : Lane) (f : LaneContext → LaneContext) (r' : Quad) :
    (s.modLane l f).quietOf r' = s.quietOf r' := rfl
@[simp] theorem quietOf_mapLanes (s : State) (f : LaneContext → LaneContext) (r' : Quad) :
    (s.mapLanes f).quietOf r' = s.quietOf r' := rfl
@[simp] theorem quietOf_modRef (s : State) (f : Reference → Reference) (r' : Quad) :
    (s.modRef f).quietOf r' = s.quietOf r' := rfl
@[simp] theorem quietOf_modStore (s : State) (f : PlanStore → PlanStore) (r' : Quad) :
    (s.modStore f).quietOf r' = s.quietOf r' := rfl
@[simp] theorem quietOf_modJc (s : State) (f : JobController → JobController) (r' : Quad) :
    (s.modJc f).quietOf r' = s.quietOf r' := rfl
@[simp] theorem quietOf_modResults (s : State) (f : ResultStore → ResultStore) (r' : Quad) :
    (s.modResults f).quietOf r' = s.quietOf r' := rfl
@[simp] theorem quietOf_modLink (s : State) (f : LinkPort → LinkPort) (r' : Quad) :
    (s.modLink f).quietOf r' = s.quietOf r' := rfl
@[simp] theorem quietOf_modPins (s : State) (f : Pins → Pins) (r' : Quad) :
    (s.modPins f).quietOf r' = s.quietOf r' := rfl
@[simp] theorem quietOf_setSlot (s : State) (h : Handle) (x : Slot) (r' : Quad) :
    (s.setSlot h x).quietOf r' = s.quietOf r' := rfl
@[simp] theorem quietOf_setPath (s : State) (i : Site) (l : Lane) (e : PathEntry) (r' : Quad) :
    (s.setPath i l e).quietOf r' = s.quietOf r' := rfl
@[simp] theorem quietOf_setJobs (s : State) (l : List Job) (r' : Quad) :
    (s.setJobs l).quietOf r' = s.quietOf r' := rfl
@[simp] theorem quietOf_draw (s : State) (r' : Quad) : (s.draw).quietOf r' = s.quietOf r' := rfl
@[simp] theorem slot_modSite (s : State) (i : Site) (f : SiteRecord → SiteRecord) (g' : Handle) :
    (s.modSite i f).slot g' = s.slot g' := rfl
@[simp] theorem slot_mapSites (s : State) (f : Site → SiteRecord → SiteRecord) (g' : Handle) :
    (s.mapSites f).slot g' = s.slot g' := by
  delta State.mapSites; rfl
@[simp] theorem slot_setQuiet (s : State) (q : Quad) (c : Countdown) (g' : Handle) :
    (s.setQuiet q c).slot g' = s.slot g' := rfl
@[simp] theorem slot_mapQuiet (s : State) (f : Quad → Countdown → Countdown) (g' : Handle) :
    (s.mapQuiet f).slot g' = s.slot g' := rfl
@[simp] theorem slot_modLane (s : State) (l : Lane) (f : LaneContext → LaneContext) (g' : Handle) :
    (s.modLane l f).slot g' = s.slot g' := rfl
@[simp] theorem slot_mapLanes (s : State) (f : LaneContext → LaneContext) (g' : Handle) :
    (s.mapLanes f).slot g' = s.slot g' := rfl
@[simp] theorem slot_modRef (s : State) (f : Reference → Reference) (g' : Handle) :
    (s.modRef f).slot g' = s.slot g' := rfl
@[simp] theorem slot_modStore (s : State) (f : PlanStore → PlanStore) (g' : Handle) :
    (s.modStore f).slot g' = s.slot g' := rfl
@[simp] theorem slot_modJc (s : State) (f : JobController → JobController) (g' : Handle) :
    (s.modJc f).slot g' = s.slot g' := rfl
@[simp] theorem slot_modLink (s : State) (f : LinkPort → LinkPort) (g' : Handle) :
    (s.modLink f).slot g' = s.slot g' := rfl
@[simp] theorem slot_modPins (s : State) (f : Pins → Pins) (g' : Handle) :
    (s.modPins f).slot g' = s.slot g' := rfl
@[simp] theorem slot_setPath (s : State) (i : Site) (l : Lane) (e : PathEntry) (g' : Handle) :
    (s.setPath i l e).slot g' = s.slot g' := rfl
@[simp] theorem slot_setJobs (s : State) (l : List Job) (g' : Handle) :
    (s.setJobs l).slot g' = s.slot g' := rfl
@[simp] theorem slot_draw (s : State) (g' : Handle) : (s.draw).slot g' = s.slot g' := rfl
@[simp] theorem plan_modSite (s : State) (i : Site) (f : SiteRecord → SiteRecord) (p' : PlanIx) :
    (s.modSite i f).plan p' = s.plan p' := rfl
@[simp] theorem plan_mapSites (s : State) (f : Site → SiteRecord → SiteRecord) (p' : PlanIx) :
    (s.mapSites f).plan p' = s.plan p' := by
  delta State.mapSites; rfl
@[simp] theorem plan_setQuiet (s : State) (q : Quad) (c : Countdown) (p' : PlanIx) :
    (s.setQuiet q c).plan p' = s.plan p' := rfl
@[simp] theorem plan_mapQuiet (s : State) (f : Quad → Countdown → Countdown) (p' : PlanIx) :
    (s.mapQuiet f).plan p' = s.plan p' := rfl
@[simp] theorem plan_modLane (s : State) (l : Lane) (f : LaneContext → LaneContext) (p' : PlanIx) :
    (s.modLane l f).plan p' = s.plan p' := rfl
@[simp] theorem plan_mapLanes (s : State) (f : LaneContext → LaneContext) (p' : PlanIx) :
    (s.mapLanes f).plan p' = s.plan p' := rfl
@[simp] theorem plan_modRef (s : State) (f : Reference → Reference) (p' : PlanIx) :
    (s.modRef f).plan p' = s.plan p' := rfl
@[simp] theorem plan_modJc (s : State) (f : JobController → JobController) (p' : PlanIx) :
    (s.modJc f).plan p' = s.plan p' := rfl
@[simp] theorem plan_modResults (s : State) (f : ResultStore → ResultStore) (p' : PlanIx) :
    (s.modResults f).plan p' = s.plan p' := rfl
@[simp] theorem plan_modLink (s : State) (f : LinkPort → LinkPort) (p' : PlanIx) :
    (s.modLink f).plan p' = s.plan p' := rfl
@[simp] theorem plan_modPins (s : State) (f : Pins → Pins) (p' : PlanIx) :
    (s.modPins f).plan p' = s.plan p' := rfl
@[simp] theorem plan_setSlot (s : State) (h : Handle) (x : Slot) (p' : PlanIx) :
    (s.setSlot h x).plan p' = s.plan p' := rfl
@[simp] theorem plan_setPath (s : State) (i : Site) (l : Lane) (e : PathEntry) (p' : PlanIx) :
    (s.setPath i l e).plan p' = s.plan p' := rfl
@[simp] theorem plan_setJobs (s : State) (l : List Job) (p' : PlanIx) :
    (s.setJobs l).plan p' = s.plan p' := rfl
@[simp] theorem plan_draw (s : State) (p' : PlanIx) : (s.draw).plan p' = s.plan p' := rfl
@[simp] theorem limitSet_modSite (s : State) (i : Site) (f : SiteRecord → SiteRecord) (y' : LimitIx) :
    (s.modSite i f).limitSet y' = s.limitSet y' := rfl
@[simp] theorem limitSet_mapSites (s : State) (f : Site → SiteRecord → SiteRecord) (y' : LimitIx) :
    (s.mapSites f).limitSet y' = s.limitSet y' := by
  delta State.mapSites; rfl
@[simp] theorem limitSet_setQuiet (s : State) (q : Quad) (c : Countdown) (y' : LimitIx) :
    (s.setQuiet q c).limitSet y' = s.limitSet y' := rfl
@[simp] theorem limitSet_mapQuiet (s : State) (f : Quad → Countdown → Countdown) (y' : LimitIx) :
    (s.mapQuiet f).limitSet y' = s.limitSet y' := rfl
@[simp] theorem limitSet_modLane (s : State) (l : Lane) (f : LaneContext → LaneContext) (y' : LimitIx) :
    (s.modLane l f).limitSet y' = s.limitSet y' := rfl
@[simp] theorem limitSet_mapLanes (s : State) (f : LaneContext → LaneContext) (y' : LimitIx) :
    (s.mapLanes f).limitSet y' = s.limitSet y' := rfl
@[simp] theorem limitSet_modRef (s : State) (f : Reference → Reference) (y' : LimitIx) :
    (s.modRef f).limitSet y' = s.limitSet y' := rfl
@[simp] theorem limitSet_modJc (s : State) (f : JobController → JobController) (y' : LimitIx) :
    (s.modJc f).limitSet y' = s.limitSet y' := rfl
@[simp] theorem limitSet_modResults (s : State) (f : ResultStore → ResultStore) (y' : LimitIx) :
    (s.modResults f).limitSet y' = s.limitSet y' := rfl
@[simp] theorem limitSet_modLink (s : State) (f : LinkPort → LinkPort) (y' : LimitIx) :
    (s.modLink f).limitSet y' = s.limitSet y' := rfl
@[simp] theorem limitSet_modPins (s : State) (f : Pins → Pins) (y' : LimitIx) :
    (s.modPins f).limitSet y' = s.limitSet y' := rfl
@[simp] theorem limitSet_setSlot (s : State) (h : Handle) (x : Slot) (y' : LimitIx) :
    (s.setSlot h x).limitSet y' = s.limitSet y' := rfl
@[simp] theorem limitSet_setPath (s : State) (i : Site) (l : Lane) (e : PathEntry) (y' : LimitIx) :
    (s.setPath i l e).limitSet y' = s.limitSet y' := rfl
@[simp] theorem limitSet_setJobs (s : State) (l : List Job) (y' : LimitIx) :
    (s.setJobs l).limitSet y' = s.limitSet y' := rfl
@[simp] theorem limitSet_draw (s : State) (y' : LimitIx) : (s.draw).limitSet y' = s.limitSet y' := rfl
@[simp] theorem path_modSite (s : State) (i : Site) (f : SiteRecord → SiteRecord) (k' : Site) (m' : Lane) :
    (s.modSite i f).path k' m' = s.path k' m' := rfl
@[simp] theorem path_mapSites (s : State) (f : Site → SiteRecord → SiteRecord) (k' : Site) (m' : Lane) :
    (s.mapSites f).path k' m' = s.path k' m' := by
  delta State.mapSites; rfl
@[simp] theorem path_setQuiet (s : State) (q : Quad) (c : Countdown) (k' : Site) (m' : Lane) :
    (s.setQuiet q c).path k' m' = s.path k' m' := rfl
@[simp] theorem path_mapQuiet (s : State) (f : Quad → Countdown → Countdown) (k' : Site) (m' : Lane) :
    (s.mapQuiet f).path k' m' = s.path k' m' := rfl
@[simp] theorem path_modLane (s : State) (l : Lane) (f : LaneContext → LaneContext) (k' : Site) (m' : Lane) :
    (s.modLane l f).path k' m' = s.path k' m' := rfl
@[simp] theorem path_mapLanes (s : State) (f : LaneContext → LaneContext) (k' : Site) (m' : Lane) :
    (s.mapLanes f).path k' m' = s.path k' m' := rfl
@[simp] theorem path_modRef (s : State) (f : Reference → Reference) (k' : Site) (m' : Lane) :
    (s.modRef f).path k' m' = s.path k' m' := rfl
@[simp] theorem path_modStore (s : State) (f : PlanStore → PlanStore) (k' : Site) (m' : Lane) :
    (s.modStore f).path k' m' = s.path k' m' := rfl
@[simp] theorem path_modJc (s : State) (f : JobController → JobController) (k' : Site) (m' : Lane) :
    (s.modJc f).path k' m' = s.path k' m' := rfl
@[simp] theorem path_modResults (s : State) (f : ResultStore → ResultStore) (k' : Site) (m' : Lane) :
    (s.modResults f).path k' m' = s.path k' m' := rfl
@[simp] theorem path_modLink (s : State) (f : LinkPort → LinkPort) (k' : Site) (m' : Lane) :
    (s.modLink f).path k' m' = s.path k' m' := rfl
@[simp] theorem path_modPins (s : State) (f : Pins → Pins) (k' : Site) (m' : Lane) :
    (s.modPins f).path k' m' = s.path k' m' := rfl
@[simp] theorem path_setSlot (s : State) (h : Handle) (x : Slot) (k' : Site) (m' : Lane) :
    (s.setSlot h x).path k' m' = s.path k' m' := rfl
@[simp] theorem path_setJobs (s : State) (l : List Job) (k' : Site) (m' : Lane) :
    (s.setJobs l).path k' m' = s.path k' m' := rfl
@[simp] theorem path_draw (s : State) (k' : Site) (m' : Lane) : (s.draw).path k' m' = s.path k' m' := rfl
@[simp] theorem jobs_modSite (s : State) (i : Site) (f : SiteRecord → SiteRecord) :
    (s.modSite i f).jobs = s.jobs := rfl
@[simp] theorem jobs_mapSites (s : State) (f : Site → SiteRecord → SiteRecord) :
    (s.mapSites f).jobs = s.jobs := by
  delta State.mapSites; rfl
@[simp] theorem jobs_setQuiet (s : State) (q : Quad) (c : Countdown) : (s.setQuiet q c).jobs = s.jobs := rfl
@[simp] theorem jobs_mapQuiet (s : State) (f : Quad → Countdown → Countdown) :
    (s.mapQuiet f).jobs = s.jobs := rfl
@[simp] theorem jobs_modLane (s : State) (l : Lane) (f : LaneContext → LaneContext) :
    (s.modLane l f).jobs = s.jobs := rfl
@[simp] theorem jobs_mapLanes (s : State) (f : LaneContext → LaneContext) : (s.mapLanes f).jobs = s.jobs := rfl
@[simp] theorem jobs_modRef (s : State) (f : Reference → Reference) : (s.modRef f).jobs = s.jobs := rfl
@[simp] theorem jobs_modStore (s : State) (f : PlanStore → PlanStore) : (s.modStore f).jobs = s.jobs := rfl
@[simp] theorem jobs_modResults (s : State) (f : ResultStore → ResultStore) :
    (s.modResults f).jobs = s.jobs := rfl
@[simp] theorem jobs_modLink (s : State) (f : LinkPort → LinkPort) : (s.modLink f).jobs = s.jobs := rfl
@[simp] theorem jobs_modPins (s : State) (f : Pins → Pins) : (s.modPins f).jobs = s.jobs := rfl
@[simp] theorem jobs_setSlot (s : State) (h : Handle) (x : Slot) : (s.setSlot h x).jobs = s.jobs := rfl
@[simp] theorem jobs_setPath (s : State) (i : Site) (l : Lane) (e : PathEntry) :
    (s.setPath i l e).jobs = s.jobs := rfl
@[simp] theorem jobs_draw (s : State) : (s.draw).jobs = s.jobs := rfl
@[simp] theorem settings_modSite (s : State) (i : Site) (f : SiteRecord → SiteRecord) :
    (s.modSite i f).settings = s.settings := rfl
@[simp] theorem settings_mapSites (s : State) (f : Site → SiteRecord → SiteRecord) :
    (s.mapSites f).settings = s.settings := by
  delta State.mapSites; rfl
@[simp] theorem settings_setQuiet (s : State) (q : Quad) (c : Countdown) :
    (s.setQuiet q c).settings = s.settings := rfl
@[simp] theorem settings_mapQuiet (s : State) (f : Quad → Countdown → Countdown) :
    (s.mapQuiet f).settings = s.settings := rfl
@[simp] theorem settings_modLane (s : State) (l : Lane) (f : LaneContext → LaneContext) :
    (s.modLane l f).settings = s.settings := rfl
@[simp] theorem settings_mapLanes (s : State) (f : LaneContext → LaneContext) :
    (s.mapLanes f).settings = s.settings := rfl
@[simp] theorem settings_modRef (s : State) (f : Reference → Reference) :
    (s.modRef f).settings = s.settings := rfl
@[simp] theorem settings_modStore (s : State) (f : PlanStore → PlanStore) :
    (s.modStore f).settings = s.settings := rfl
@[simp] theorem settings_modJc (s : State) (f : JobController → JobController) :
    (s.modJc f).settings = s.settings := rfl
@[simp] theorem settings_modResults (s : State) (f : ResultStore → ResultStore) :
    (s.modResults f).settings = s.settings := rfl
@[simp] theorem settings_modPins (s : State) (f : Pins → Pins) : (s.modPins f).settings = s.settings := rfl
@[simp] theorem settings_setSlot (s : State) (h : Handle) (x : Slot) :
    (s.setSlot h x).settings = s.settings := rfl
@[simp] theorem settings_setPath (s : State) (i : Site) (l : Lane) (e : PathEntry) :
    (s.setPath i l e).settings = s.settings := rfl
@[simp] theorem settings_setJobs (s : State) (l : List Job) : (s.setJobs l).settings = s.settings := rfl
@[simp] theorem settings_draw (s : State) : (s.draw).settings = s.settings := rfl
@[simp] theorem now_modSite (s : State) (i : Site) (f : SiteRecord → SiteRecord) :
    (s.modSite i f).now = s.now := rfl
@[simp] theorem now_mapSites (s : State) (f : Site → SiteRecord → SiteRecord) :
    (s.mapSites f).now = s.now := by
  delta State.mapSites; rfl
@[simp] theorem now_setQuiet (s : State) (q : Quad) (c : Countdown) : (s.setQuiet q c).now = s.now := rfl
@[simp] theorem now_mapQuiet (s : State) (f : Quad → Countdown → Countdown) : (s.mapQuiet f).now = s.now := rfl
@[simp] theorem now_modLane (s : State) (l : Lane) (f : LaneContext → LaneContext) :
    (s.modLane l f).now = s.now := rfl
@[simp] theorem now_mapLanes (s : State) (f : LaneContext → LaneContext) : (s.mapLanes f).now = s.now := rfl
@[simp] theorem now_modStore (s : State) (f : PlanStore → PlanStore) : (s.modStore f).now = s.now := rfl
@[simp] theorem now_modJc (s : State) (f : JobController → JobController) : (s.modJc f).now = s.now := rfl
@[simp] theorem now_modResults (s : State) (f : ResultStore → ResultStore) :
    (s.modResults f).now = s.now := rfl
@[simp] theorem now_modLink (s : State) (f : LinkPort → LinkPort) : (s.modLink f).now = s.now := rfl
@[simp] theorem now_modPins (s : State) (f : Pins → Pins) : (s.modPins f).now = s.now := rfl
@[simp] theorem now_setSlot (s : State) (h : Handle) (x : Slot) : (s.setSlot h x).now = s.now := rfl
@[simp] theorem now_setPath (s : State) (i : Site) (l : Lane) (e : PathEntry) :
    (s.setPath i l e).now = s.now := rfl
@[simp] theorem now_setJobs (s : State) (l : List Job) : (s.setJobs l).now = s.now := rfl
@[simp] theorem now_draw (s : State) : (s.draw).now = s.now := rfl

@[simp] theorem jobs_setJobs (s : State) (l : List Job) : (s.setJobs l).jobs = l := rfl

end Sys2Proof.Machine
end

