-- ==== Sys2Proof/Laws/Frames.lean ====
section
/-!
SUPPORT. What the shared operations of sites, jobs, results and lane ends leave alone, once for each operation,
and a rule for folds of steps.
-/
namespace Sys2Proof.Machine

/-- What no end, requeue, announcement or switch event touches. -/
structure KeepsRest (s t : State) : Prop where
  ref : t.ref = s.ref
  store : t.store = s.store
  link : t.link = s.link
  pins : t.pins = s.pins
  laneOrder : t.laneOrder = s.laneOrder
  free : t.free = s.free
  pending : t.pending = s.pending

theorem KeepsRest.rfl {s : State} : KeepsRest s s :=
  ⟨Eq.refl _, Eq.refl _, Eq.refl _, Eq.refl _, Eq.refl _, Eq.refl _, Eq.refl _⟩

theorem KeepsRest.trans {s t u : State} (h : KeepsRest s t) (k : KeepsRest t u) : KeepsRest s u :=
  ⟨k.ref.trans h.ref, k.store.trans h.store, k.link.trans h.link, k.pins.trans h.pins,
    k.laneOrder.trans h.laneOrder, k.free.trans h.free, k.pending.trans h.pending⟩

/-- A fold of steps that each stand in a reflexive, transitive relation stands in it. -/
theorem foldl_related {α : Type} (r : State → State → Prop) (hr : ∀ s, r s s)
    (ht : ∀ s t u, r s t → r t u → r s u) (f : State → α → State) (hf : ∀ s a, r s (f s a)) (l : List α)
    (s : State) : r s (l.foldl f s) := by
  induction l generalizing s with
  | nil => exact hr s
  | cons a l ih => exact ht _ _ _ (hf s a) (ih (f s a))

/-- A property that each step of a fold keeps holds after the fold. -/
theorem foldl_keeps {α : Type} (p : State → Prop) (f : State → α → State) (hf : ∀ s a, p s → p (f s a))
    (l : List α) (s : State) (hs : p s) : p (l.foldl f s) := by
  induction l generalizing s with
  | nil => exact hs
  | cons a l ih => exact ih _ (hf s a hs)

theorem keepsRest_foldl {α : Type} (f : State → α → State) (hf : ∀ s a, KeepsRest s (f s a)) (l : List α)
    (s : State) : KeepsRest s (l.foldl f s) :=
  foldl_related KeepsRest (fun _ => .rfl) (fun _ _ _ => .trans) f hf l s

theorem keepsRest_modSite (s : State) (i : Site) (f : SiteRecord → SiteRecord) : KeepsRest s (s.modSite i f) :=
  ⟨rfl, rfl, rfl, rfl, rfl, rfl, rfl⟩

theorem keepsRest_setQuiet (s : State) (q : Quad) (c : Countdown) : KeepsRest s (s.setQuiet q c) :=
  ⟨rfl, rfl, rfl, rfl, rfl, rfl, rfl⟩

theorem keepsRest_modLane (s : State) (l : Lane) (f : LaneContext → LaneContext) : KeepsRest s (s.modLane l f) :=
  ⟨rfl, rfl, rfl, rfl, rfl, rfl, rfl⟩

theorem keepsRest_modJc (s : State) (f : JobController → JobController) : KeepsRest s (s.modJc f) :=
  ⟨rfl, rfl, rfl, rfl, rfl, rfl, rfl⟩

theorem keepsRest_modResults (s : State) (f : ResultStore → ResultStore) : KeepsRest s (s.modResults f) :=
  ⟨rfl, rfl, rfl, rfl, rfl, rfl, rfl⟩

theorem keepsRest_setPath (s : State) (i : Site) (l : Lane) (e : PathEntry) : KeepsRest s (s.setPath i l e) :=
  ⟨rfl, rfl, rfl, rfl, rfl, rfl, rfl⟩

theorem keepsRest_deposit (j : Job) (d : Deposit) (s : State) : KeepsRest s (deposit j d s) := by
  unfold deposit
  cases j.work <;> exact ⟨rfl, rfl, rfl, rfl, rfl, rfl, rfl⟩

theorem keepsRest_removeJob (id : Nat) (s : State) : KeepsRest s (removeJob id s) :=
  ⟨rfl, rfl, rfl, rfl, rfl, rfl, rfl⟩

theorem keepsRest_endInList (code : TermCode) (s : State) (j : Job) : KeepsRest s (endInList code s j) :=
  (keepsRest_removeJob j.id s).trans (keepsRest_deposit j _ _)

theorem keepsRest_announce (i : Site) (s : State) : KeepsRest s (announce i s) :=
  keepsRest_foldl _ (keepsRest_endInList _) _ s

theorem keepsRest_endChecksOn (l : Lane) (s : State) : KeepsRest s (endChecksOn l s) :=
  keepsRest_foldl _ (keepsRest_endInList _) _ s

theorem keepsRest_disturbQuad (q : Quad) (s : State) : KeepsRest s (disturbQuad q s) :=
  (keepsRest_setQuiet s q _).trans (keepsRest_foldl _ (fun s i => keepsRest_modSite s i _) _ _)

theorem keepsRest_switchOn (q : Quad) (sites : List Site) (s : State) : KeepsRest s (switchOn q sites s) :=
  (keepsRest_foldl _ (fun s i => keepsRest_modSite s i _) sites s).trans (keepsRest_disturbQuad q _)

theorem keepsRest_claimTogether (q : Quad) (sites : List Site) (s : State) :
    KeepsRest s (claimTogether q sites s) := by
  unfold claimTogether
  split
  · exact keepsRest_foldl _ (fun s i => keepsRest_modSite s i _) sites s
  · exact keepsRest_switchOn _ _ s

theorem keepsRest_claimPower (i : Site) (s : State) : KeepsRest s (claimPower i s) :=
  keepsRest_claimTogether _ _ s

theorem keepsRest_release (q : Quad) (s : State) : KeepsRest s (release q s) := by
  unfold release
  split
  · exact keepsRest_switchOn _ _ s
  · exact .rfl

theorem keepsRest_detach (l : Lane) (s : State) : KeepsRest s (detach l s) := by
  unfold detach
  split
  · exact .rfl
  · exact (keepsRest_modSite s _ _).trans (keepsRest_release _ _)

theorem keepsRest_leave (l : Lane) (dest : LaneState) (s : State) : KeepsRest s (leave l dest s) :=
  keepsRest_modLane s l _

theorem keepsRest_writeCheckedPath (j : Job) (e : EndReport) (s : State) :
    KeepsRest s (writeCheckedPath j e s) := by
  unfold writeCheckedPath
  split
  · exact keepsRest_setPath s _ _ _
  · exact .rfl

theorem keepsRest_setHold (l : Lane) (j : Job) (dest : LaneState) (s : State) :
    KeepsRest s (setHold l j dest s) := by
  unfold setHold
  split
  · exact keepsRest_modLane s l _
  · exact .rfl

/-- An end on a lane changes sites, quads, the job list, the lane, the results and a path, and nothing else. -/
theorem keepsRest_endJob (l : Lane) (j : Job) (e : EndReport) (dest : LaneState) (s : State) :
    KeepsRest s (endJob l j e dest s) :=
  (keepsRest_removeJob j.id s).trans <| (keepsRest_writeCheckedPath j e _).trans <|
    (keepsRest_deposit j _ _).trans <| (keepsRest_setHold l j dest _).trans <|
      (keepsRest_detach l _).trans (keepsRest_leave l dest _)

theorem keepsRest_laneEnd (l : Lane) (e : EndReport) (dest : LaneState) (s : State) :
    KeepsRest s (laneEnd l e dest s) := by
  unfold laneEnd
  split
  · exact (keepsRest_detach l s).trans (keepsRest_leave l dest _)
  · exact keepsRest_endJob l _ e dest s

/-- A job given back changes what an end changes, and nothing else. -/
theorem keepsRest_giveBack (l : Lane) (cause : RequeueCause) (dest : LaneState) (s : State) :
    KeepsRest s (giveBack l cause dest s) := by
  unfold giveBack
  split
  · exact (keepsRest_detach l s).trans (keepsRest_leave l dest _)
  · split
    · exact keepsRest_endJob l _ _ dest s
    · exact (keepsRest_modJc s _).trans ((keepsRest_detach l _).trans (keepsRest_leave l dest _))

theorem keepsRest_takeSwitchEvent (named : List Site) (cause : SwitchCause) (l : Lane) (i : Site) (s : State) :
    KeepsRest s (takeSwitchEvent named cause l i s) := by
  simp only [takeSwitchEvent]
  repeat' split
  all_goals first
    | exact .rfl
    | exact keepsRest_laneEnd _ _ _ _
    | exact keepsRest_giveBack _ _ _ _

theorem keepsRest_announceSwitch (q : Quad) (named : List Site) (cause : SwitchCause) (s : State) (l : Lane) :
    KeepsRest s (announceSwitch q named cause s l) := by
  unfold announceSwitch
  repeat' split
  all_goals first
    | exact .rfl
    | exact keepsRest_takeSwitchEvent _ _ _ _ _

/-- A quad switch event changes what the ends and requeues it causes change, and nothing else. -/
theorem keepsRest_quadEvent (q : Quad) (named : List Site) (cause : SwitchCause) (s : State) :
    KeepsRest s (quadEvent q named cause s) :=
  (keepsRest_disturbQuad q s).trans (keepsRest_foldl _ (keepsRest_announceSwitch q named cause) _ _)

theorem keepsRest_switchOff (i : Site) (dest : SiteState) (cause : SwitchCause) (s : State) :
    KeepsRest s (switchOff i dest cause s) :=
  (keepsRest_modSite s i _).trans (keepsRest_quadEvent _ _ _ _)

theorem keepsRest_acquisitionEnd (l : Lane) (code : TermCode) (s : State) :
    KeepsRest s (acquisitionEnd l code s) := by
  simp only [acquisitionEnd]
  split <;> exact keepsRest_laneEnd _ _ _ _

theorem keepsRest_appendJob (batch : Option Nat) (s : State) (n : NewJob) :
    KeepsRest s (appendJob batch s n) := by
  unfold appendJob
  split
  · exact .rfl
  · exact (keepsRest_modResults s _).trans (keepsRest_modJc _ _)

theorem keepsRest_appendJobs (batch : Option Nat) (news : List NewJob) (s : State) :
    KeepsRest s (appendJobs batch news s) :=
  keepsRest_foldl _ (keepsRest_appendJob batch) news s

/-- Every order of the lanes is a permutation of them (log 7). -/
theorem lanesInOrder_perm (n : Fin 24) : (lanesInOrder n).Perm allLanes := by
  revert n
  decide

/-! ### Operations that leave the lanes, the jobs and the results alone -/

/-- What switch-ons and detaches leave alone beside the rest. -/
structure KeepsWork (s t : State) : Prop where
  jc : t.jc = s.jc
  lanes : t.lanes = s.lanes
  results : t.results = s.results
  paths : t.paths = s.paths

theorem KeepsWork.rfl {s : State} : KeepsWork s s := ⟨Eq.refl _, Eq.refl _, Eq.refl _, Eq.refl _⟩

theorem KeepsWork.trans {s t u : State} (h : KeepsWork s t) (k : KeepsWork t u) : KeepsWork s u :=
  ⟨k.jc.trans h.jc, k.lanes.trans h.lanes, k.results.trans h.results, k.paths.trans h.paths⟩

theorem keepsWork_modSite (s : State) (i : Site) (f : SiteRecord → SiteRecord) : KeepsWork s (s.modSite i f) :=
  ⟨rfl, rfl, rfl, rfl⟩

theorem keepsWork_foldl {α : Type} (f : State → α → State) (hf : ∀ s a, KeepsWork s (f s a)) (l : List α)
    (s : State) : KeepsWork s (l.foldl f s) :=
  foldl_related KeepsWork (fun _ => .rfl) (fun _ _ _ => .trans) f hf l s

theorem keepsWork_setQuiet (s : State) (q : Quad) (c : Countdown) : KeepsWork s (s.setQuiet q c) :=
  ⟨rfl, rfl, rfl, rfl⟩

theorem keepsWork_disturbQuad (q : Quad) (s : State) : KeepsWork s (disturbQuad q s) :=
  (keepsWork_setQuiet s q _).trans (keepsWork_foldl _ (fun s i => keepsWork_modSite s i _) _ _)

theorem keepsWork_switchOn (q : Quad) (sites : List Site) (s : State) : KeepsWork s (switchOn q sites s) :=
  (keepsWork_foldl _ (fun s i => keepsWork_modSite s i _) sites s).trans (keepsWork_disturbQuad q _)

theorem keepsWork_claimTogether (q : Quad) (sites : List Site) (s : State) :
    KeepsWork s (claimTogether q sites s) := by
  unfold claimTogether
  split
  · exact keepsWork_foldl _ (fun s i => keepsWork_modSite s i _) sites s
  · exact keepsWork_switchOn _ _ s

theorem keepsWork_claimPower (i : Site) (s : State) : KeepsWork s (claimPower i s) :=
  keepsWork_claimTogether _ _ s

theorem keepsWork_release (q : Quad) (s : State) : KeepsWork s (release q s) := by
  unfold release
  split
  · exact keepsWork_switchOn _ _ s
  · exact .rfl

/-- A detach, with the release it may cause, changes sites and quads only. -/
theorem keepsWork_detach (l : Lane) (s : State) : KeepsWork s (detach l s) := by
  unfold detach
  split
  · exact .rfl
  · exact (keepsWork_modSite s _ _).trans (keepsWork_release _ _)

/-! ### The Link Port -/

/-- Only the Link Port changes. -/
def OnlyLink (s t : State) : Prop := t = { s with link := t.link }

theorem onlyLink_putReply (body : List Byte) (r : Response) (s : State) : OnlyLink s (putReply body r s) := rfl
theorem onlyLink_setFollow (f : Option Follow) (s : State) : OnlyLink s (setFollow f s) := rfl
theorem onlyLink_receive (x : Receiver) (s : State) : OnlyLink s (receive x s) := rfl
theorem onlyLink_toHunt (s : State) : OnlyLink s (toHunt s) := rfl
theorem onlyLink_raiseAlert (a : Alert) (s : State) : OnlyLink s (raiseAlert a s) := rfl
theorem onlyLink_raiseLaneFaulted (l : Lane) (s : State) : OnlyLink s (raiseLaneFaulted l s) := rfl
theorem onlyLink_raiseSupplyFault (i : Site) (s : State) : OnlyLink s (raiseSupplyFault i s) := rfl
theorem onlyLink_raiseHoldExpired (l : Lane) (s : State) : OnlyLink s (raiseHoldExpired l s) := rfl
theorem onlyLink_decideNak (x : NakReason) (s : State) : OnlyLink s (decideNak x s) := rfl

theorem onlyLink_endFollow (body : List Byte) (s : State) : OnlyLink s (endFollow body s) := by
  unfold endFollow
  split <;> rfl

theorem onlyLink_swallowByte (x : Swallow) (b : Byte) (s : State) : OnlyLink s (swallowByte x b s) := by
  unfold swallowByte
  split
  · rfl
  · split <;> rfl
  · rfl

end Sys2Proof.Machine
end

