-- ==== Sys2Proof/Laws/PerInstr.lean ====
section
/-!
SUPPORT. Per command: the body of a well-formed command fits the largest frame (R174), so that its length byte is its
length; an event has no body. The lemmas of fields give the length of each field (R192).
-/
namespace Sys2Proof

@[simp] theorem length_be8 (n : Nat) : (be8 n).length = 1 := rfl
@[simp] theorem length_be16 (n : Nat) : (be16 n).length = 2 := rfl
@[simp] theorem length_be32 (n : Nat) : (be32 n).length = 4 := rfl
@[simp] theorem length_beInt (i : Int) : (beInt i).length = 4 := rfl
@[simp] theorem length_beBool (b : Bool) : (beBool b).length = 1 := rfl
@[simp] theorem length_limitEntry (e : LimitEntry) : e.bytes.length = 11 := rfl

/-- An optional field of a fixed size takes its presence byte and, when present, that size. -/
theorem length_beOpt {α : Type} (f : α → List Byte) (k : Nat) (h : ∀ a, (f a).length = k) (o : Option α) :
    (beOpt f o).length = 1 + if o.isSome then k else 0 := by
  cases o with
  | none => rfl
  | some a => simp [beOpt, h]; omega

/-- A list of elements of a fixed size takes its count byte and that size for each. -/
theorem length_beList {α : Type} (f : α → List Byte) (k : Nat) (h : ∀ a, (f a).length = k) (l : List α) :
    (beList f l).length = 1 + k * l.length := by
  have e : (l.flatMap f).length = k * l.length := by
    induction l with
    | nil => rfl
    | cons a l ih => simp [h, ih, Nat.mul_add, Nat.add_comm]
  simp [beList, e]

/-- The bytes of a plan record. -/
theorem length_plan (p : Plan) :
    p.bytes.length = 19 + (if p.band.isSome then 8 else 0) + 4 * p.spots.length
      + (if p.limitSet.isSome then 1 else 0) := by
  have h1 := length_beOpt (fun b : Nat × Nat => be32 b.1 ++ be32 b.2) 8 (fun _ => rfl) p.band
  have h2 := length_beList be32 4 (fun _ => rfl) p.spots
  have h3 := length_beOpt be8 1 (fun _ => rfl) p.limitSet
  simp only [Plan.bytes, List.length_append, length_be8, length_be16, length_be32, h1, h2, h3, List.length_cons,
    List.length_nil]
  omega

end Sys2Proof

namespace Sys2Proof.Laws.BodyFits

/-- The body of a well-formed command has at most 240 bytes. -/
def Statement (i : Instr) : Prop := WellFormed i = true → (requestBody i).length ≤ 240

/-- A body whose length does not depend on its operands is compared by computing. -/
theorem fits_of (i : Instr) (h : Nat.ble (requestBody i).length 240 = true) : Statement i :=
  fun _ => Nat.le_of_ble_eq_true h

theorem siteMode (tag : Byte) (site : Nat) (enable autopower settle : Option Nat) : Statement (.siteMode tag site enable autopower settle) := by
  intro _
  simp only [requestBody, List.length_append, length_be8, length_beOpt be8 1 (fun _ => rfl),
    length_beOpt be16 2 (fun _ => rfl), List.length_cons, List.length_nil]
  repeat' split
  all_goals omega

theorem powerOn (tag : Byte) (site : Nat) : Statement (.powerOn tag site) := fits_of _ rfl

theorem powerOff (tag : Byte) (site : Nat) : Statement (.powerOff tag site) := fits_of _ rfl

theorem clearSite (tag : Byte) (site : Nat) : Statement (.clearSite tag site) := fits_of _ rfl

theorem querySites (tag : Byte) : Statement (.querySites tag) := fits_of _ rfl

theorem queryTimebase (tag : Byte) : Statement (.queryTimebase tag) := fits_of _ rfl

theorem queryLane (tag : Byte) (lane : Nat) : Statement (.queryLane tag lane) := fits_of _ rfl

theorem recalibrate (tag : Byte) (lane : Nat) : Statement (.recalibrate tag lane) := fits_of _ rfl

theorem laneModeEnable (tag : Byte) (lane : Nat) : Statement (.laneModeEnable tag lane) := fits_of _ rfl

theorem laneModeDisable (tag : Byte) (lane : Nat) : Statement (.laneModeDisable tag lane) := fits_of _ rfl

theorem writePlan (tag : Byte) (index : Nat) (plan : Plan) : Statement (.writePlan tag index plan) := by
  intro h
  simp only [WellFormed, Plan.bodyFits, Bool.and_eq_true, decide_eq_true_eq] at h
  have e := length_plan plan
  simp only [requestBody, List.length_append, length_be8, e, List.length_cons, List.length_nil]
  omega

theorem erasePlan (tag : Byte) (index : Nat) : Statement (.erasePlan tag index) := fits_of _ rfl

theorem readPlan (tag : Byte) (index : Nat) : Statement (.readPlan tag index) := fits_of _ rfl

theorem writeLimits (tag : Byte) (index : Nat) (entries : List LimitEntry) : Statement (.writeLimits tag index entries) := by
  intro h
  simp only [WellFormed, Bool.and_eq_true, decide_eq_true_eq] at h
  have e := length_beList LimitEntry.bytes 11 length_limitEntry entries
  simp only [requestBody, List.length_append, length_be8, e, List.length_cons, List.length_nil]
  omega

theorem eraseLimits (tag : Byte) (index : Nat) : Statement (.eraseLimits tag index) := fits_of _ rfl

theorem readLimits (tag : Byte) (index : Nat) : Statement (.readLimits tag index) := fits_of _ rfl

theorem protect (tag : Byte) (boundary : Option Nat) (setup : Bool) : Statement (.protect tag boundary setup) := by
  intro _
  simp only [requestBody, List.length_append, length_beOpt be8 1 (fun _ => rfl), List.length_cons, List.length_nil]
  split <;> omega

theorem measure (tag : Byte) (site plan : Nat) : Statement (.measure tag site plan) := fits_of _ rfl

theorem screen (tag : Byte) (sites : BitVec 16) (plan : Nat) : Statement (.screen tag sites plan) := fits_of _ rfl

theorem checkPaths (tag : Byte) (sites : BitVec 16) (lanes : BitVec 8) : Statement (.checkPaths tag sites lanes) := fits_of _ rfl

theorem cancel (tag : Byte) (selector value : Nat) : Statement (.cancel tag selector value) := fits_of _ rfl

theorem pause (tag : Byte) : Statement (.pause tag) := fits_of _ rfl

theorem resume (tag : Byte) : Statement (.resume tag) := fits_of _ rfl

theorem queryQueue (tag : Byte) : Statement (.queryQueue tag) := fits_of _ rfl

theorem snapshot (tag : Byte) (lanes : BitVec 8) : Statement (.snapshot tag lanes) := fits_of _ rfl

theorem readSnapshot (tag : Byte) (lane : Nat) : Statement (.readSnapshot tag lane) := fits_of _ rfl

theorem readSamples (tag : Byte) (lane start window follow : Nat) : Statement (.readSamples tag lane start window follow) := fits_of _ rfl

theorem nextBlock : Statement .nextBlock := fits_of _ rfl

theorem releaseLane (tag : Byte) (lane : Nat) : Statement (.releaseLane tag lane) := fits_of _ rfl

theorem takeCompletion (tag : Byte) : Statement (.takeCompletion tag) := fits_of _ rfl

theorem readResult (tag : Byte) (handle : Nat) : Statement (.readResult tag handle) := fits_of _ rfl

theorem freeResult (tag : Byte) (handle : Nat) : Statement (.freeResult tag handle) := fits_of _ rfl

theorem queryPaths (tag : Byte) (site : Option Nat) : Statement (.queryPaths tag site) := by
  intro _
  simp only [requestBody, List.length_append, length_beOpt be8 1 (fun _ => rfl), List.length_cons, List.length_nil]
  split <;> omega

theorem setConfig (tag : Byte) (setting value : Nat) : Statement (.setConfig tag setting value) := fits_of _ rfl

theorem getConfig (tag : Byte) (setting : Nat) : Statement (.getConfig tag setting) := fits_of _ rfl

theorem readAlerts (tag : Byte) : Statement (.readAlerts tag) := fits_of _ rfl

theorem restart (tag : Byte) : Statement (.restart tag) := fits_of _ rfl

theorem badKindRequest (kind : Byte) (rest : List Byte) : Statement (.badKindRequest kind rest) := by
  intro h
  simp only [WellFormed, Bool.and_eq_true, decide_eq_true_eq] at h
  simp only [requestBody, List.length_cons]
  omega

theorem receiveByte (byte : Byte) (setup : Bool) : Statement (.receiveByte byte setup) := fits_of _ rfl

theorem gapExpiry : Statement .gapExpiry := fits_of _ rfl

theorem replyComplete : Statement .replyComplete := fits_of _ rfl

theorem restartIssue : Statement .restartIssue := fits_of _ rfl

theorem restartBusyWindowEnd : Statement .restartBusyWindowEnd := fits_of _ rfl

theorem resetAssert : Statement .resetAssert := fits_of _ rfl

theorem resetEnd (contact : BitVec 16) (rate : BitVec 2) : Statement (.resetEnd contact rate) := fits_of _ rfl

theorem serviceTick (contact supplyFlt : BitVec 16) (order : Fin 24) : Statement (.serviceTick contact supplyFlt order) := fits_of _ rfl

theorem contactRise (site : Site) : Statement (.contactRise site) := fits_of _ rfl

theorem contactFall (site : Site) : Statement (.contactFall site) := fits_of _ rfl

theorem supplyFaultTrip (site : Site) : Statement (.supplyFaultTrip site) := fits_of _ rfl

theorem settleExpiry (site : Site) : Statement (.settleExpiry site) := fits_of _ rfl

theorem quietExpiry (quad : Quad) : Statement (.quietExpiry quad) := fits_of _ rfl

theorem checkIntervalEnd (edges : Nat) : Statement (.checkIntervalEnd edges) := fits_of _ rfl

theorem calCounterExpiry (lane : Lane) : Statement (.calCounterExpiry lane) := fits_of _ rfl

theorem quietTimeCalibration (lane : Lane) : Statement (.quietTimeCalibration lane) := fits_of _ rfl

theorem calibrationComplete (lane : Lane) (gain : Nat) (spread : Rat) : Statement (.calibrationComplete lane gain spread) := fits_of _ rfl

theorem lanePairing : Statement .lanePairing := fits_of _ rfl

theorem attachEnd (lane : Lane) : Statement (.attachEnd lane) := fits_of _ rfl

theorem noSignalWindowEnd (lane : Lane) (edges : List EdgeRun) : Statement (.noSignalWindowEnd lane edges) := fits_of _ rfl

theorem coarseFrequencyCheck (lane : Lane) (edges : List EdgeRun) (since time : Rat) :
    Statement (.coarseFrequencyCheck lane edges since time) := fits_of _ rfl

theorem lockAcquired (seen : PathEdges) : Statement (.lockAcquired seen) := fits_of _ rfl

theorem lockWindowEnd (seen : PathEdges) : Statement (.lockWindowEnd seen) := fits_of _ rfl

theorem lossOfLock (seen : PathEdges) : Statement (.lossOfLock seen) := fits_of _ rfl

theorem discardComplete (seen : PathEdges) : Statement (.discardComplete seen) := fits_of _ rfl

theorem sampleComplete (lane : Lane) (edges : List EdgeRun) (since time : Rat) :
    Statement (.sampleComplete lane edges since time) := fits_of _ rfl

theorem checkCaptureEnd (lane : Lane) : Statement (.checkCaptureEnd lane) := fits_of _ rfl

theorem reductionEnd (lane : Lane) : Statement (.reductionEnd lane) := fits_of _ rfl

theorem budgetExpiry (lane : Lane) : Statement (.budgetExpiry lane) := fits_of _ rfl

theorem holdExpiry (lane : Lane) : Statement (.holdExpiry lane) := fits_of _ rfl

end Sys2Proof.Laws.BodyFits
end

