-- ==== Sys2Proof/Laws/Requests.lean ====
section
/-!
SUPPORT. What a request command comes to: the taking of its body in and out of the restart busy window, and one
law by which every request statement is read off its owner's answer.
-/
namespace Sys2Proof.Machine

/-- A request taken outside the restart busy window is answered by its owner, its follow context ended first. -/
theorem takeBody_of_notBusy {body : List Byte} {act : State → Response × State} {s : State}
    (h : s.link.busy.left = 0) :
    takeBody body act s = putReply body (act (endFollow body s)).1 (act (endFollow body s)).2 := by
  have e : inBusyWindow (endFollow body s) = false := by
    unfold endFollow inBusyWindow
    split <;> simp [setFollow, h]
  simp [takeBody, e]

/-- A request taken in the restart busy window is answered BUSY and reaches no owner. -/
theorem takeBody_of_busy {body : List Byte} {act : State → Response × State} {s : State}
    (h : 0 < s.link.busy.left) :
    takeBody body act s = putReply body (refuse .busy) (endFollow body s) := by
  have e : inBusyWindow (endFollow body s) = true := by
    unfold endFollow inBusyWindow
    split <;> simp [setFollow, h]
  simp [takeBody, e]

/-- A request that the part listens to is taken. -/
theorem request_of_listening {setup : Bool} {i : Instr} {act : State → Response × State} {s : State}
    (h : listening s = true) : request setup i act s = takeBody (requestBody i) act (setSetup setup s) := by
  simp [request, h]

@[simp] theorem setSetup_same (s : State) : setSetup s.pins.setup s = s := rfl

@[simp] theorem busy_setSetup (b : Bool) (s : State) : (setSetup b s).link = s.link := rfl

/-- A request other than NEXT, taken with SETUP at a level, leaves its owner's state with the reply pending. -/
theorem taken_answers {setup : Bool} {i : Instr} {act : State → Response × State} {s : State} {kind tag : Byte}
    {rest : List Byte} (ht : Takes s) (hb : requestBody i = kind :: tag :: rest) (hk : kind ≠ nextKind)
    (hx : (act (setFollow none (setSetup setup s))).1.status ≠ .badKind) :
    taken setup i act s = .next
      (replied (kind ||| 0x80) tag (act (setFollow none (setSetup setup s))).1.status
        (act (setFollow none (setSetup setup s))).1.data (act (setFollow none (setSetup setup s))).2) := by
  have e : endFollow (requestBody i) (setSetup setup s) = setFollow none (setSetup setup s) := by
    simp [endFollow, hb, hk]
  rw [taken, request_of_listening ht.1, takeBody_of_notBusy (by exact ht.2), e, hb]
  simp only [putReply, replyKind, if_neg hx, bodyTag, if_neg hk]
  rfl

/-- The same from the owner's answer, for a reply kind `rk`: a status, data in one frame or more, and a state. -/
theorem taken_eq {setup : Bool} {i : Instr} {act : State → Response × State} {s t : State} {kind tag rk : Byte}
    {rest : List Byte} {x : Status} {data : ReplyData} (ht : Takes s) (hb : requestBody i = kind :: tag :: rest)
    (hk : kind ≠ nextKind) (hr : kind ||| 0x80 = rk) (hx : x ≠ .badKind)
    (ha : act (setFollow none (setSetup setup s)) = (⟨x, data⟩, t)) :
    taken setup i act s = .next (replied rk tag x data t) := by
  rw [taken_answers ht hb hk (by rw [ha]; exact hx), ha, hr]

end Sys2Proof.Machine
end

