-- ==== Sys2Proof/Laws/Sites.lean ====
section
/-!
SUPPORT. What the operations over several sites come to at one site and at one quad: a change of each site of a list, a
quad switch event's settle and quiet, a switch-on, and the rises taken with an autopower claim.
-/
namespace Sys2Proof.Machine

theorem mem_quadSites {q : Quad} {i : Site} : i ∈ quadSites q ↔ quadOf i = q := by
  simp [quadSites, allSites]

theorem nodup_quadSites (q : Quad) : (quadSites q).Nodup := (List.nodup_finRange 16).filter _

/-- Changing each site of a list once changes the sites of the list, and no other. -/
theorem site_foldl_modSite (f : SiteRecord → SiteRecord) {sites : List Site} (once : sites.Nodup) (s : State) (k : Site) :
    (sites.foldl (fun s i => s.modSite i f) s).site k = if k ∈ sites then f (s.site k) else s.site k := by
  induction sites generalizing s with
  | nil => rfl
  | cons i rest ih =>
    have away : i ∉ rest := (List.nodup_cons.mp once).1
    rw [List.foldl_cons, ih (List.nodup_cons.mp once).2]
    by_cases e : k = i
    · subst e; simp [away]
    · simp [e, site_modSite_of_ne s f e]

/-- Changing sites changes no quiet countdown. -/
theorem quietOf_foldl_modSite (f : SiteRecord → SiteRecord) (sites : List Site) (s : State) (q : Quad) :
    (sites.foldl (fun s i => s.modSite i f) s).quietOf q = s.quietOf q := by
  induction sites generalizing s with
  | nil => rfl
  | cons i rest ih => rw [List.foldl_cons, ih, quietOf_modSite]

/-- Changing sites changes sites only. -/
theorem foldl_modSite_eq (f : SiteRecord → SiteRecord) (sites : List Site) (s : State) :
    sites.foldl (fun s i => s.modSite i f) s
      = { s with sites := (sites.foldl (fun s i => s.modSite i f) s).sites } := by
  induction sites generalizing s with
  | nil => rfl
  | cons i rest ih =>
    rw [List.foldl_cons]
    exact ih _

/-! ### A quad switch event at the sites (R12) -/

theorem site_disturbQuad (q : Quad) (s : State) (k : Site) :
    (disturbQuad q s).site k = if quadOf k = q then reloadSettle (s.site k) else s.site k := by
  simp only [disturbQuad, site_foldl_modSite _ (nodup_quadSites q), mem_quadSites, site_setQuiet]

theorem quietOf_disturbQuad (q p : Quad) (s : State) :
    (disturbQuad q s).quietOf p = if p = q then .load s.settings.quietWindow else s.quietOf p := by
  rw [disturbQuad, quietOf_foldl_modSite]
  split
  · rename_i e; rw [e, quietOf_setQuiet_self]
  · rename_i e; exact quietOf_setQuiet_of_ne s _ e

/-- A quad switch event changes sites and quiet countdowns only, before the lanes take it. -/
theorem disturbQuad_eq (q : Quad) (s : State) :
    disturbQuad q s = { s with sites := (disturbQuad q s).sites, quiet := (disturbQuad q s).quiet } := by
  have h := foldl_modSite_eq reloadSettle (quadSites q) (s.setQuiet q (.load s.settings.quietWindow))
  rw [disturbQuad, h]
  rfl

/-! ### Switch-ons (R7) -/

/-- A switch-on at one site: powered if it is named, and reloaded if it is another SETTLING site of the quad. -/
theorem site_switchOn {q : Quad} {sites : List Site} (once : sites.Nodup) (s : State) (k : Site) :
    (switchOn q sites s).site k =
      if k ∈ sites then switchedOn (s.site k)
      else if quadOf k = q then reloadSettle (s.site k) else s.site k := by
  rw [switchOn, site_disturbQuad, site_foldl_modSite _ once]
  by_cases h : k ∈ sites
  · simp [h, switchedOn, reloadSettle]
  · simp [h]

theorem quietOf_switchOn (q p : Quad) (sites : List Site) (s : State) :
    (switchOn q sites s).quietOf p = if p = q then .load s.settings.quietWindow else s.quietOf p := by
  rw [switchOn, quietOf_disturbQuad, quietOf_foldl_modSite]
  rw [foldl_modSite_eq]
  rfl

/-- A switch-on changes sites and quiet countdowns only. -/
theorem switchOn_eq (q : Quad) (sites : List Site) (s : State) :
    switchOn q sites s = { s with sites := (switchOn q sites s).sites, quiet := (switchOn q sites s).quiet } := by
  unfold switchOn
  rw [disturbQuad_eq, foldl_modSite_eq]

/-! ### Autopower claims (R4, R7) -/

theorem mem_owedClaims {s : State} {q : Quad} {k : Site} :
    k ∈ owedClaims s q ↔ quadOf k = q ∧ owesClaim (s.site k) = true := by
  simp [owedClaims, mem_quadSites]

theorem nodup_owedClaims (s : State) (q : Quad) : (owedClaims s q).Nodup := (nodup_quadSites q).filter _

/-- Seating sites leaves the attachments of every quad. -/
theorem quadAttached_foldl_seat (q : Quad) (sites : List Site) (s : State) :
    quadAttached (sites.foldl seat s) q = quadAttached s q := by
  induction sites generalizing s with
  | nil => rfl
  | cons i rest ih =>
    rw [List.foldl_cons, ih]
    unfold quadAttached
    refine congrArg (fun p => (quadSites q).any p) (funext fun k => ?_)
    by_cases e : k = i
    · subst e; simp [seat, takeContact]
    · rw [seat, site_modSite_of_ne s _ e]

/-- The first rise with an autopower claim in a quad with no attached site takes every owed claim of the quad as one
switch-on (R7). -/
theorem contactRise_claims {i : Site} {s : State} (owes : owesClaim (s.site i) = true)
    (free : quadAttached s (quadOf i) = false) :
    contactRise i s = switchOn (quadOf i) (owedClaims s (quadOf i)) ((owedClaims s (quadOf i)).foldl seat s) := by
  simp only [owesClaim, Bool.and_eq_true, Bool.not_eq_true', beq_iff_eq] at owes
  simp [contactRise, risesWith, claimTogether, owes, free, quadAttached_foldl_seat]

/-- A site that owes no rise is left by its row. -/
theorem contactRise_of_none {i : Site} {s : State} (h : (s.site i).changeDue = false ∨ (s.site i).contact = true) :
    contactRise i s = s := by
  rcases h with h | h <;> simp [contactRise, h]

end Sys2Proof.Machine
end

