-- ==== Sys2Proof/Laws/Tracker.lean ====
section
/-!
SUPPORT. What the operations over edges come to: the edges of the chosen polarity, the tracker edge by edge, lock, the
first edges of a list of runs and their times; and what a lock test leaves alone.
-/
namespace Sys2Proof.Machine

/-! ### The edges of the chosen polarity -/

theorem chosenEdges_cons (p : RunParams) (r : EdgeRun) (rest : List EdgeRun) :
    chosenEdges p (r :: rest) = chosenEdges p [r] ++ chosenEdges p rest := by
  simp only [chosenEdges, List.filter_cons, List.filter_nil]
  split <;> rfl

theorem edgeCount_cons (r : EdgeRun) (rest : List EdgeRun) : edgeCount (r :: rest) = r.count + edgeCount rest := rfl

/-- No edge of the chosen polarity has come exactly when every run of it is empty. -/
theorem edgeCount_chosen_eq_zero (p : RunParams) (edges : List EdgeRun) :
    edgeCount (chosenEdges p edges) = 0 ↔ ∀ r ∈ edges, r.falling = p.falling → r.count = 0 := by
  induction edges with
  | nil => simp [edgeCount, chosenEdges]
  | cons r rest ih =>
    by_cases h : (r.falling == p.falling && decide (0 < r.count)) = true
    · have e : chosenEdges p (r :: rest) = r :: chosenEdges p rest := by simp only [chosenEdges, List.filter_cons, h, if_true]
      have h' : r.falling = p.falling ∧ 0 < r.count := by simpa using h
      rw [e, edgeCount_cons]
      exact ⟨fun k => by omega, fun k => by have := k r (by simp) h'.1; omega⟩
    · have e : chosenEdges p (r :: rest) = chosenEdges p rest := by
        simp only [chosenEdges, List.filter_cons, h, Bool.false_eq_true, if_false]
      have h' : r.falling = p.falling → r.count = 0 := by
        intro k
        simpa [k] using h
      rw [e, ih]
      simp only [List.mem_cons, forall_eq_or_imp]
      exact ⟨fun k => ⟨h', k⟩, fun k => k.2⟩

/-! ### The tracker -/

theorem track_nil (p : RunParams) (t : Tracker) : track p [] t = t := rfl

/-- The tracker takes in one run after another. -/
theorem track_cons (p : RunParams) (r : EdgeRun) (rest : List EdgeRun) (t : Tracker) :
    track p (r :: rest) t = track p rest (track p [r] t) := by
  simp only [track, chosenEdges_cons p r rest, List.foldl_append]

/-- Lock by its two conditions (R88). -/
theorem holdsLock_iff (nominal : Nat) (t : Tracker) (time : Rat) :
    holdsLock nominal t time = true ↔
      1024 ≤ t.good ∧ ∃ e, t.last = some e ∧ 8 * (time - e) ≤ 9 * nominalPeriod nominal := by
  unfold holdsLock overdue Config.lockPeriods
  cases t.last <;> simp

/-! ### The first edges and their times -/

/-- The times of all the edges of a list of runs. -/
def allEdgeTimes (runs : List EdgeRun) : List Rat :=
  runs.flatMap fun r => (List.range r.count).map fun k : Nat => r.first + (k : Rat) * r.period

theorem allEdgeTimes_cons (r : EdgeRun) (rest : List EdgeRun) :
    allEdgeTimes (r :: rest)
      = ((List.range r.count).map fun k : Nat => r.first + (k : Rat) * r.period) ++ allEdgeTimes rest := rfl

theorem length_allEdgeTimes (runs : List EdgeRun) : (allEdgeTimes runs).length = edgeCount runs := by
  induction runs with
  | nil => rfl
  | cons r rest ih => simp [allEdgeTimes_cons, edgeCount_cons, ih]

/-- The first edges of a list of runs have the first of its times. -/
theorem allEdgeTimes_firstEdges (n : Nat) (runs : List EdgeRun) :
    allEdgeTimes (firstEdges n runs) = (allEdgeTimes runs).take n := by
  induction runs generalizing n with
  | nil => cases n <;> rfl
  | cons r rest ih =>
    cases n with
    | zero => rfl
    | succ n =>
      simp only [firstEdges]
      split
      · rename_i h
        rw [allEdgeTimes_cons, allEdgeTimes_cons, List.take_append_of_le_length (by simpa using h), ← List.map_take,
          List.take_range, Nat.min_eq_left h]
        exact List.append_nil _
      · rename_i h
        have hl : ((List.range r.count).map fun k : Nat => r.first + (k : Rat) * r.period).length ≤ n + 1 := by
          simp only [List.length_map, List.length_range]
          omega
        rw [allEdgeTimes_cons, ih, allEdgeTimes_cons, List.take_append, List.take_of_length_le hl]
        simp only [List.length_map, List.length_range]

theorem edgeTimes_eq (n : Nat) (runs : List EdgeRun) : edgeTimes n runs = (allEdgeTimes runs).take n := by
  have key : ∀ runs : List EdgeRun, ((runs.flatMap fun r =>
      (List.range (min n r.count)).map fun k : Nat => r.first + (k : Rat) * r.period).take n)
        = (allEdgeTimes runs).take n := by
    intro runs
    induction runs with
    | nil => rfl
    | cons r rest ih =>
      rw [List.flatMap_cons, allEdgeTimes_cons]
      by_cases h : n ≤ r.count
      · rw [Nat.min_eq_left h, List.take_append_of_le_length (by simp), List.take_append_of_le_length (by simpa using h),
          ← List.map_take, ← List.map_take, List.take_range, List.take_range, Nat.min_self, Nat.min_eq_left h]
      · rw [Nat.min_eq_right (by omega), List.take_append, List.take_append]
        congr 1
        simp only [List.length_map, List.length_range]
        have := congrArg (List.take (n - r.count)) ih
        rw [List.take_take, List.take_take, Nat.min_eq_left (by omega)] at this
        exact this
  exact key runs

/-! ### What the steps of acquisition leave alone -/

theorem keepsRest_takeEdges (l : Lane) (p : RunParams) (edges : List EdgeRun) (s : State) :
    KeepsRest s (takeEdges l p edges s) := keepsRest_modLane s l _

theorem keepsRest_enterDiscarding (l : Lane) (p : RunParams) (s : State) : KeepsRest s (enterDiscarding l p s) :=
  keepsRest_modLane s l _

/-- A lock test changes what entering DISCARDING changes, or what follows without lock. -/
theorem keepsRest_lockTest (l : Lane) (p : RunParams) (time : Rat) (without : State → State) (s : State)
    (h : KeepsRest s (without s)) : KeepsRest s (lockTest l p time without s) := by
  unfold lockTest
  split
  · exact keepsRest_enterDiscarding l p s
  · exact h

end Sys2Proof.Machine
end

