-- ==== Sys2Proof/Laws/Wire.lean ====
section
/-!
SUPPORT. Reading back what was written (R192, R195): one lemma for each field, over any bytes that follow it.
-/
namespace Sys2Proof

/-- What a reader answers on bytes. -/
theorem run_bind {α β : Type} (p : Reader α) (f : α → Reader β) (bs : List Byte) :
    (p >>= f).run bs = match p.run bs with
      | .ok (a, rest) => (f a).run rest
      | .error e => .error e := by
  simp only [StateT.run_bind]
  cases p.run bs <;> rfl

@[simp] theorem run_return {α : Type} (a : α) (bs : List Byte) :
    (return a : Reader α).run bs = .ok (a, bs) := rfl

@[simp] theorem run_byte (b : Byte) (rest : List Byte) : byte.run (b :: rest) = .ok (b, rest) := rfl

theorem run_u8 (b : Byte) (rest : List Byte) : u8.run (b :: rest) = .ok (b.toNat, rest) := rfl

theorem run_u16 (a b : Byte) (rest : List Byte) :
    u16.run (a :: b :: rest) = .ok (a.toNat * 256 + b.toNat, rest) := rfl

theorem run_u32 (a b c d : Byte) (rest : List Byte) :
    u32.run (a :: b :: c :: d :: rest)
      = .ok ((a.toNat * 256 + b.toNat) * 65536 + (c.toNat * 256 + d.toNat), rest) := rfl

theorem u8_be8 {n : Nat} (h : n < 2 ^ 8) (rest : List Byte) : u8.run (be8 n ++ rest) = .ok (n, rest) := by
  simp only [be8, List.cons_append, List.nil_append, run_u8, BitVec.toNat_ofNat, Nat.mod_eq_of_lt h]

theorem u16_be16 {n : Nat} (h : n < 2 ^ 16) (rest : List Byte) : u16.run (be16 n ++ rest) = .ok (n, rest) := by
  simp only [be16, List.cons_append, List.nil_append, run_u16, BitVec.toNat_ofNat, Except.ok.injEq, Prod.mk.injEq,
    and_true]
  omega

theorem u32_be32 {n : Nat} (h : n < 2 ^ 32) (rest : List Byte) : u32.run (be32 n ++ rest) = .ok (n, rest) := by
  simp only [be32, be16, List.cons_append, List.nil_append, run_u32, BitVec.toNat_ofNat, Except.ok.injEq,
    Prod.mk.injEq, and_true]
  omega

theorem i32_beInt {i : Int} (h : fitsInt32 i = true) (rest : List Byte) :
    i32.run (beInt i ++ rest) = .ok (i, rest) := by
  simp only [fitsInt32, Bool.and_eq_true, decide_eq_true_eq] at h
  have hn : (i % 2 ^ 32).toNat < 2 ^ 32 := by omega
  simp only [i32, beInt, run_bind, u32_be32 hn, run_return, Except.ok.injEq, Prod.mk.injEq, and_true]
  split <;> omega

theorem opt_beOpt {α : Type} {p : Reader α} {f : α → List Byte} {o : Option α}
    (h : ∀ a ∈ o, ∀ rest, p.run (f a ++ rest) = .ok (a, rest)) (rest : List Byte) :
    (opt p).run (beOpt f o ++ rest) = .ok (o, rest) := by
  cases o with
  | none => rfl
  | some a =>
    simp only [opt, beOpt, List.cons_append, run_bind, run_u8]
    simp [h a rfl]

theorem times_flatMap {α : Type} {p : Reader α} {f : α → List Byte} {l : List α}
    (h : ∀ a ∈ l, ∀ rest, p.run (f a ++ rest) = .ok (a, rest)) (rest : List Byte) :
    (times p l.length).run (l.flatMap f ++ rest) = .ok (l, rest) := by
  induction l with
  | nil => rfl
  | cons a l ih =>
    simp only [List.length_cons, times, List.flatMap_cons, List.append_assoc, run_bind,
      h a (List.mem_cons_self ..), ih fun b hb => h b (List.mem_cons_of_mem _ hb), run_return]

theorem counted_beList {α : Type} {p : Reader α} {f : α → List Byte} {l : List α} (hl : l.length < 2 ^ 8)
    (h : ∀ a ∈ l, ∀ rest, p.run (f a ++ rest) = .ok (a, rest)) (rest : List Byte) :
    (counted p).run (beList f l ++ rest) = .ok (l, rest) := by
  simp only [counted, beList, List.append_assoc, run_bind, u8_be8 hl, times_flatMap h]

theorem limitEntry_bytes {e : LimitEntry} (h : e.fits = true) (rest : List Byte) :
    limitEntry.run (e.bytes ++ rest) = .ok (e, rest) := by
  simp only [LimitEntry.fits, fits8, Bool.and_eq_true, decide_eq_true_eq] at h
  obtain ⟨⟨⟨⟨h1, h2⟩, h3⟩, h4⟩, h5⟩ := h
  simp only [limitEntry, LimitEntry.bytes, List.append_assoc, run_bind, u8_be8 h1, u8_be8 h2, i32_beInt h3,
    i32_beInt h4, u8_be8 h5, run_return]

theorem planRecord_bytes {p : Plan} (h : p.fits = true) (rest : List Byte) :
    planRecord.run (p.bytes ++ rest) = .ok (p, rest) := by
  simp only [Plan.fits, fits8, fits16, fits32, Bool.and_eq_true, decide_eq_true_eq] at h
  obtain ⟨⟨⟨⟨⟨⟨⟨⟨⟨⟨⟨h1, h2⟩, h3⟩, h4, h4'⟩, h5⟩, h6⟩, h7⟩, h8⟩, h9⟩, h10⟩, h11, h11'⟩, h12⟩ := h
  have hd : p.discard - 1 < 2 ^ 8 := by omega
  have hb : p.budget - 1 < 2 ^ 16 := by omega
  have hband : ∀ b ∈ p.band, ∀ r, (do
      let lo ← u32
      let hi ← u32
      return (lo, hi) : Reader (Nat × Nat)).run ((be32 b.1 ++ be32 b.2) ++ r) = .ok (b, r) := by
    intro b e r
    rw [Option.mem_def.1 e] at h6
    simp only [Bool.and_eq_true, decide_eq_true_eq] at h6
    simp only [List.append_assoc, run_bind, u32_be32 h6.1, u32_be32 h6.2, run_return]
  have hspots : ∀ x ∈ p.spots, ∀ r, u32.run (be32 x ++ r) = .ok (x, r) := by
    intro x e r
    exact u32_be32 (by simpa [fits32] using List.all_eq_true.1 h8 x e) r
  have hlimit : ∀ x ∈ p.limitSet, ∀ r, u8.run (be8 x ++ r) = .ok (x, r) := by
    intro x e r
    rw [Option.mem_def.1 e] at h9
    exact u8_be8 (by simpa [fitsOpt, fits8] using h9) r
  simp only [planRecord, Plan.bytes, List.append_assoc, run_bind, u32_be32 h1, u8_be8 h2, u16_be16 h3, u8_be8 hd,
    u8_be8 h5, List.cons_append, List.nil_append, run_byte]
  simp only [opt_beOpt hband, counted_beList h7 hspots, opt_beOpt hlimit, u8_be8 h10, u16_be16 hb,
    u16_be16 h12, run_byte, run_return, Nat.sub_add_cancel h4, Nat.sub_add_cancel h11]

end Sys2Proof
end

