-- ==== Sys2Proof/Tests/Slice0.lean ====
section
/-!
SUPPORT. The model's own tests: the check on well-formed commands refuses an ill-formed term for each of its checks;
the coding of the line on worked bytes; and for each statement with hypotheses, states that meet them, with what the
command then leaves.
-/
namespace Sys2Proof.Tests

set_option Elab.async false

open Sys2Proof Sys2Proof.Machine

/-! ### Small states -/

/-- The state after a command; no command stops. -/
def after (i : Instr) (s : State) : State :=
  match exec i s with
  | .next t => t
  | .fault _ => s
  | .refused _ => s

/-- The status of the pending reply. -/
def said (s : State) : Option Status :=
  match s.link.reply with
  | some (.answer _ _ x _) => some x
  | _ => none

/-- The data of a pending reply in one frame. -/
def told (s : State) : List Byte :=
  match s.link.reply with
  | some (.answer _ _ _ (.single d)) => d
  | _ => []

/-- A LOCKED reference at tick 1,000 and four IDLE lanes. -/
def base : State :=
  { State.reset with ref := ⟨.locked, 200, 10000, .refin, 1000⟩ }.mapLanes fun c =>
    { c with state := .idle, calCounter := ⟨10000, false⟩ }

/-- Site 0 in a state, with the contact and the supply that go with it. -/
def site0 (x : SiteState) (s : State) : State :=
  s.modSite 0 fun r =>
    { r with state := x, contact := x != .vacant, supply := x == .settling || x == .ready }

/-- A plan with KEEP_SAMPLES, PERIOD, 1,024 samples, budget 100 and one retry. -/
def aPlan : Plan := ⟨10000000, 0, 16, 1, 10, 1, none, [], some 0, 1, 100, 100, 1⟩

/-- A limit set of one entry. -/
def aLimit : LimitEntry := ⟨0, 2, -5, 5, 3⟩

/-- Plan 0 and limit set 0 DEFINED. -/
def stored : State := base.modStore fun x => { x with plans := x.plans.set 0 (some aPlan), limits := x.limits.set 0 (some [aLimit]) }

/-- Site 0 READY and ready to be measured with plan 0. -/
def ready : State := site0 .ready stored

/-- A job of id 1 with slot 0 for site 0. -/
def aJob (w : Work) (lane : Option Lane) : Job := ⟨1, w, 0, none, lane, 0, 0, 0, 900, lane.map fun l => ⟨l, 950⟩⟩

/-- The job listed. -/
def listed (w : Work) (lane : Option Lane) (s : State) : State :=
  (s.setSlot 0 .reserved).setJobs [aJob w lane]

/-- The job runs on lane 0, which is in a state. -/
def running (w : Work) (x : LaneState) (s : State) : State :=
  ((listed w (some 0) s).modSite 0 fun r => { r with attachedLane := some 0, attachedKind := some w.kind }).modLane 0
    fun c =>
      { c with state := x, run := { RunState.idle with
          site := some 0, jobId := some 1, kind := some w.kind, start := some 950, budget := ⟨50, false⟩ } }

/-- Changes the run state of lane 0. -/
def onRun (f : RunState → RunState) (s : State) : State := s.modLane 0 fun c => { c with run := f c.run }

/-- A MEASURE job of plan 0 on lane 0. -/
def measuring (x : LaneState) : State := running (.measure 0) x ready

/-- A CHECK job on lane 0. -/
def checking (x : LaneState) : State := running (.check 0) x (site0 .vacant stored)

/-- A result record of the job. -/
def aRecord : ResultRecord :=
  ⟨1, .measure 0, 0, none, .noSignal, some 0, 0, 0, some 900, 950, none, .none, [], some ⟨7, none, 0⟩, .none,
    .unchecked, false⟩

/-- Slot 5 in a state. -/
def slot5 (x : Slot) : State := base.setSlot 5 x

/-- Lane 2 with a ring of 3 samples from sequence 10, held. -/
def held : State :=
  base.modLane 2 fun c =>
    { c with captured := 13, ring := some ⟨1, 10, [⟨1, 2, 3⟩, ⟨4, 5, 6⟩, ⟨7, 8, 9⟩]⟩, hold := true,
             holdLeft := ⟨1, true⟩ }

/-- The receiver in a state, with a reply pending or none. -/
def receiving (x : Receiver) (r : Option Reply) : State :=
  base.modLink fun k => { k with receiver := x, gap := ⟨1, true⟩, reply := r }

/-! ### Well-formed commands -/

theorem test_wf_site : WellFormed (.powerOn 0 255) = true ∧ WellFormed (.powerOn 0 256) = false := by decide
theorem test_wf_siteMode :
    WellFormed (.siteMode 0 256 none none none) = false ∧ WellFormed (.siteMode 0 0 (some 256) none none) = false
      ∧ WellFormed (.siteMode 0 0 none (some 256) none) = false
      ∧ WellFormed (.siteMode 0 0 none none (some 65536)) = false
      ∧ WellFormed (.siteMode 0 255 (some 255) (some 255) (some 65535)) = true := by decide
theorem test_wf_lane :
    WellFormed (.queryLane 0 256) = false ∧ WellFormed (.recalibrate 0 256) = false
      ∧ WellFormed (.laneModeEnable 0 256) = false ∧ WellFormed (.laneModeDisable 0 256) = false
      ∧ WellFormed (.readSnapshot 0 256) = false ∧ WellFormed (.releaseLane 0 256) = false := by decide
theorem test_wf_sites :
    WellFormed (.powerOff 0 256) = false ∧ WellFormed (.clearSite 0 256) = false
      ∧ WellFormed (.queryPaths 0 (some 256)) = false := by decide
theorem test_wf_index :
    WellFormed (.erasePlan 0 256) = false ∧ WellFormed (.readPlan 0 256) = false
      ∧ WellFormed (.eraseLimits 0 256) = false ∧ WellFormed (.readLimits 0 256) = false
      ∧ WellFormed (.protect 0 (some 256) true) = false ∧ WellFormed (.writePlan 0 256 aPlan) = false
      ∧ WellFormed (.writePlan 0 0 aPlan) = true := by decide
theorem test_wf_plan_fields :
    [{ aPlan with nominal := 2 ^ 32 }, { aPlan with edge := 256 }, { aPlan with stride := 65536 },
     { aPlan with discard := 0 }, { aPlan with discard := 257 }, { aPlan with sampleExp := 256 },
     { aPlan with band := some (2 ^ 32, 0) }, { aPlan with band := some (0, 2 ^ 32) }, { aPlan with spots := [2 ^ 32] },
     { aPlan with limitSet := some 256 }, { aPlan with retryLimit := 256 }, { aPlan with budget := 0 },
     { aPlan with budget := 65537 }, { aPlan with window := 65536 }].all fun p => !p.fits := by decide
theorem test_wf_plan_body :
    Plan.bodyFits { aPlan with spots := List.replicate 55 0 } = false
      ∧ Plan.bodyFits { aPlan with spots := List.replicate 54 0 } = true
      ∧ Plan.fits { aPlan with spots := List.replicate 256 0 } = false := by decide +kernel
theorem test_wf_limits :
    WellFormed (.writeLimits 0 256 []) = false ∧ WellFormed (.writeLimits 0 0 (List.replicate 22 aLimit)) = false
      ∧ WellFormed (.writeLimits 0 0 (List.replicate 21 aLimit)) = true
      ∧ ([{ aLimit with selector := 256 }, { aLimit with comparison := 256 }, { aLimit with lo := -(2 ^ 31) - 1 },
          { aLimit with hi := 2 ^ 31 }, { aLimit with bin := 256 }].all fun e => !e.fits) = true := by decide +kernel
theorem test_wf_jobs :
    WellFormed (.measure 0 256 0) = false ∧ WellFormed (.measure 0 0 256) = false
      ∧ WellFormed (.screen 0 1 256) = false ∧ WellFormed (.cancel 0 256 0) = false
      ∧ WellFormed (.cancel 0 0 256) = false := by decide
theorem test_wf_samples :
    WellFormed (.readSamples 0 256 0 0 0) = false ∧ WellFormed (.readSamples 0 0 65536 0 0) = false
      ∧ WellFormed (.readSamples 0 0 0 65536 0) = false ∧ WellFormed (.readSamples 0 0 0 0 256) = false := by decide
theorem test_wf_handles :
    WellFormed (.readResult 0 256) = false ∧ WellFormed (.freeResult 0 256) = false := by decide
theorem test_wf_config :
    WellFormed (.setConfig 0 256 0) = false ∧ WellFormed (.setConfig 0 0 (2 ^ 32)) = false
      ∧ WellFormed (.getConfig 0 256) = false := by decide
theorem test_wf_badKind :
    WellFormed (.badKindRequest 0x01 []) = false ∧ WellFormed (.badKindRequest 0x05 [7]) = true
      ∧ WellFormed (.badKindRequest 0x05 (List.replicate 240 0)) = false := by decide +kernel
theorem test_wf_events :
    WellFormed (.calibrationComplete 0 1024 0) = false ∧ WellFormed (.calibrationComplete 0 0 (-1)) = false := by
  decide +kernel
theorem test_wf_edges :
    ([[⟨false, 0, 1, 0⟩], [⟨true, 0, 0, 1⟩], [⟨false, 0, 1, 5⟩, ⟨false, 4, 1, 1⟩], [⟨true, 0, 1, 5⟩, ⟨true, 4, 1, 1⟩]].all
        fun e : List EdgeRun => !WellFormed (.noSignalWindowEnd 0 e) && !WellFormed (.discardComplete ⟨0, e, 99⟩)
          && !WellFormed (.sampleComplete 0 e (-1) 99)) = true
      ∧ edgesFit [⟨false, 0, 2, 5⟩, ⟨true, 1, 2, 5⟩, ⟨false, 9, 1, 1⟩] = true := by decide +kernel
theorem test_wf_edges_by_a_time :
    ([3, 4].map fun time : Rat => ([.lockAcquired ⟨0, [⟨false, 0, 1, 5⟩], time⟩,
        .lockWindowEnd ⟨0, [⟨false, 0, 1, 5⟩], time⟩, .lossOfLock ⟨0, [⟨false, 0, 1, 5⟩], time⟩,
        .discardComplete ⟨0, [⟨false, 0, 1, 5⟩], time⟩] : List Instr).map WellFormed)
      = [List.replicate 4 false, List.replicate 4 true] := by decide +kernel
theorem test_wf_edges_between_times :
    ([(0, 9), (-1, 3), (-1, 4)].map fun b : Rat × Rat => ([.coarseFrequencyCheck 0 [⟨false, 0, 1, 5⟩] b.1 b.2,
        .sampleComplete 0 [⟨false, 0, 1, 5⟩] b.1 b.2] : List Instr).map WellFormed)
      = [[false, false], [false, false], [true, true]] := by decide +kernel

/-! ### The coding of the line -/

theorem test_next_frame : frameOf (requestBody .nextBlock) = [0xC3, 0x01, 0x2F, 0xD8] ∧ crc8 [0x01] = 0x07 := by
  decide +kernel
theorem test_measure_body : requestBody (.measure 0x11 15 23) = [0x20, 0x11, 15, 23] := by decide
theorem test_setConfig_body : requestBody (.setConfig 0x02 0 1000) = [0x3C, 0x02, 0, 0, 0, 3, 232] := by decide
theorem test_siteMode_body :
    requestBody (.siteMode 9 3 (some 1) none (some 300)) = [0x01, 9, 3, 1, 1, 0, 1, 1, 44] := by decide
theorem test_limit_bytes :
    aLimit.bytes = [0, 2, 0xFF, 0xFF, 0xFF, 0xFB, 0, 0, 0, 5, 3] := by decide
theorem test_plan_bytes :
    aPlan.bytes = [0, 0x98, 0x96, 0x80, 0, 0, 16, 0, 10, 1, 0, 0, 1, 0, 1, 0, 99, 0, 100, 1] := by decide

theorem test_RequestsReadBack_met :
    WellFormed (.measure 0x11 15 23) = true ∧ isRequest (.measure 0x11 15 23) = true
      ∧ readBody false [0x20, 0x11, 15, 23] = .ok (.measure 0x11 15 23) := ⟨rfl, rfl, rfl⟩
theorem test_RequestsReadBack_badKind_met :
    WellFormed (.badKindRequest 0x05 [7]) = true ∧ isRequest (.badKindRequest 0x05 [7]) = true
      ∧ readBody false [0x05, 7] = .error .badKind := ⟨rfl, rfl, rfl⟩
theorem test_body_faults :
    readBody false [0x20, 1, 2] = .error .badLength ∧ readBody false [0x24, 1, 2] = .error .badLength
      ∧ readBody false [0x02, 1, 2, 2] = .error .badField ∧ readBody false [0x16, 1, 2] = .error .badField :=
  ⟨rfl, rfl, rfl, rfl⟩
theorem test_RequestIsItsFrame_met :
    (said (feed false (frameOf (requestBody (.pause 4))) base), said (after (.pause 4) base)) = (some .ok, some .ok)
      ∧ (feed false (frameOf (requestBody (.pause 4))) base).jc.paused = true
      ∧ (after (.pause 4) (receiving .drain none)).jc.paused = false := by decide +kernel

/-! ### Reset and the link -/

theorem test_ResetEndValues_met :
    (after .resetAssert base).pins.resetn = false
      ∧ (after (.resetEnd 8 2) (after .resetAssert base)).link.rate = 2
      ∧ ((after (.resetEnd 8 2) (after .resetAssert base)).site 3).state = .seated
      ∧ ((after (.resetEnd 8 2) (after .resetAssert base)).site 2).state = .vacant := by decide +kernel
theorem test_ResetHeld_met :
    (after .resetAssert base).pins.resetn = false ∧ said (after (.pause 0) (after .resetAssert base)) = none
      ∧ (after (.serviceTick 0 0 0) (after .resetAssert base)).ref.tick = 0 := by decide +kernel

/-- The restart busy window runs. -/
def busy : State := base.modLink fun k => { k with busy := ⟨10, false⟩, follow := some ⟨2, 10, 12, 64, 11, false⟩ }

theorem test_Takes_met : Takes base ∧ Takes stored ∧ Takes ready ∧ Takes held := by decide +kernel
theorem test_LinkRefusals_met :
    listening busy = true ∧ 0 < busy.link.busy.left ∧ said (after (.pause 4) busy) = some .busy
      ∧ (after (.pause 4) busy).link.follow = none ∧ said (after .nextBlock busy) = some .busy
      ∧ (after .nextBlock busy).link.follow.isSome = true := by decide +kernel
theorem test_LinkRefusals_badKind_met :
    Takes base ∧ WellFormed (.badKindRequest 0x05 [7]) = true
      ∧ (after (.badKindRequest 0x05 [7]) base).link.reply = some (.answer 0xFE 7 .badKind (.single []))
      ∧ (after (.badKindRequest 0x05 []) base).link.reply = some (.answer 0xFE 0 .badKind (.single [])) := by
  decide +kernel

/-- The receiver after a byte, from a receiver with a reply pending or none, and whether LINK_ERROR is set. -/
def heard (x : Receiver) (r : Option Reply) (b : Byte) : Receiver × Nat × Bool :=
  let t := after (.receiveByte b false) (receiving x r)
  (t.link.receiver, t.link.gap.left, t.alertSet .linkError)

/-- A reply that is pending. -/
def aReply : Option Reply := some (.answer 0xA4 1 .ok (.single [1]))

theorem test_receive_hunt :
    heard .hunt none 0x00 = (.hunt, 1, false) ∧ heard .hunt none 0xC3 = (.length, 5, false)
      ∧ heard .hunt aReply 0xC3 = (.swallow .length, 5, true) := by decide +kernel
theorem test_receive_length :
    heard .length none 0 = (.drain, 5, false) ∧ heard .length none 1 = (.body 1 [], 5, false)
      ∧ heard .length none 240 = (.body 240 [], 5, false) ∧ heard .length none 241 = (.drain, 5, false) := by
  decide +kernel
theorem test_receive_body :
    heard (.body 2 []) none 0x24 = (.body 2 [0x24], 5, false)
      ∧ heard (.body 2 [0x24]) none 9 = (.check [0x24, 9], 5, false) := by decide +kernel
theorem test_receive_check :
    heard (.check [0x2F]) none 0xD9 = (.hunt, 0, true) ∧ (0xD9 : Byte) ≠ crc8 [1, 0x2F]
      ∧ (after (.receiveByte 0xD9 false) (receiving (.check [0x2F]) none)).link.reply = some (.nak .check)
      ∧ said (after (.receiveByte 0xD8 false) (receiving (.check [0x2F]) none)) = some .state := by decide +kernel
theorem test_receive_drain_swallow :
    heard .drain none 0xC3 = (.drain, 5, false) ∧ heard (.swallow .length) aReply 240 = (.swallow (.bytes 241), 5, false)
      ∧ heard (.swallow .length) aReply 241 = (.swallow .untilGap, 5, false)
      ∧ heard (.swallow .length) aReply 0 = (.swallow .untilGap, 5, false)
      ∧ heard (.swallow (.bytes 2)) aReply 7 = (.swallow (.bytes 1), 5, false)
      ∧ heard (.swallow (.bytes 1)) aReply 7 = (.hunt, 0, false)
      ∧ heard (.swallow .untilGap) aReply 7 = (.swallow .untilGap, 5, false) := by decide +kernel
theorem test_gapExpiry :
    (after .gapExpiry (receiving .length none)).link.reply = some (.nak .gap)
      ∧ (after .gapExpiry (receiving .drain none)).link.reply = some (.nak .length)
      ∧ (after .gapExpiry (receiving (.swallow .untilGap) aReply)).link.reply = aReply
      ∧ (after .gapExpiry (receiving (.body 2 []) none)).link.receiver = .hunt := by decide +kernel

theorem test_raised_masks :
    (raiseLaneFaulted 3 (raiseHoldExpired 0 (raiseSupplyFault 15 base))).link.alerts = ⟨0b011101, 8, 0x8000, 1⟩ := by
  decide +kernel
theorem test_readAlerts : told (after (.readAlerts 0) State.reset) = [1, 0, 0, 0, 0]
    ∧ (after (.readAlerts 0) State.reset).link.alerts = ⟨0, 0, 0, 0⟩ := by decide +kernel
theorem test_RestartTakesEffect_met :
    Takes base ∧ (after (.restart 3) base).link.restartOwed = true ∧ (measuring .capturing).link.restartOwed = false := by
  decide +kernel
theorem test_restart_issue :
    let t := after .replyComplete (after (.restart 3) (measuring .capturing))
    t.jobs = [] ∧ (t.lane 0).state = .idle ∧ (t.site 0).state = .seated ∧ (t.site 0).attachedLane = none
      ∧ (t.quietOf 0).left = 20 ∧ (t.quietOf 1).left = 0 ∧ t.link.busy.left = 10 := by decide +kernel
theorem test_restart_ends :
    (after .restartIssue base).link.busy.left = 0
      ∧ (after .restartBusyWindowEnd (busy.modLink fun k => { k with busy := ⟨1, true⟩ })).link.busy = ⟨0, false⟩ := by
  decide +kernel

/-! ### Sites -/

/-- The status of a command on a state, with the state of site 0 after it. -/
def siteAfter (i : Instr) (s : State) : Option Status × SiteState :=
  (said (after i s), ((after i s).site 0).state)

theorem test_SiteModeApplies_met :
    siteAfter (.siteMode 0 16 none none none) base = (some .badField, .vacant)
      ∧ siteAfter (.siteMode 0 0 (some 2) none none) base = (some .badField, .vacant)
      ∧ siteAfter (.siteMode 0 0 none (some 2) none) base = (some .badField, .vacant)
      ∧ siteAfter (.siteMode 0 0 none none (some 0)) base = (some .badField, .vacant)
      ∧ siteAfter (.siteMode 0 0 none none (some 5001)) base = (some .badField, .vacant)
      ∧ siteAfter (.siteMode 0 0 (some 0) none none) (site0 .settling base) = (some .state, .settling) := by
  decide +kernel
theorem test_SiteModeApplies_ok :
    siteAfter (.siteMode 0 0 (some 0) none none) base = (some .ok, .disabled)
      ∧ siteAfter (.siteMode 0 0 (some 1) (some 1) (some 5000)) (site0 .disabled base) = (some .ok, .seated)
      ∧ ((after (.siteMode 0 15 none (some 1) (some 1)) base).site 15).settleTicks = 1 := by decide +kernel
theorem test_PowerOnByState_met :
    siteAfter (.powerOn 0 16) base = (some .badField, .vacant)
      ∧ siteAfter (.powerOn 0 0) (site0 .seated base) = (some .ok, .settling)
      ∧ siteAfter (.powerOn 0 0) (running (.check 0) .attaching (site0 .seated base)) = (some .ok, .powerPending)
      ∧ siteAfter (.powerOn 0 0) (site0 .ready base) = (some .ok, .ready)
      ∧ siteAfter (.powerOn 0 0) (site0 .fault base) = (some .state, .fault) := by decide +kernel
theorem test_switchOn :
    let t := after (.powerOn 0 0) ((site0 .seated base).modSite 3 fun r => { r with state := .settling, settle := ⟨7, false⟩ })
    (t.site 0).supply = true ∧ (t.site 0).settle.left = 100 ∧ (t.site 3).settle.left = 100
      ∧ (t.quietOf 0).left = 20 := by decide +kernel
theorem test_PowerOffAndClearSite_met :
    siteAfter (.powerOff 0 16) base = (some .badField, .vacant)
      ∧ siteAfter (.powerOff 0 0) (site0 .ready base) = (some .ok, .seated)
      ∧ siteAfter (.powerOff 0 0) (site0 .powerPending base) = (some .ok, .seated)
      ∧ siteAfter (.powerOff 0 0) base = (some .ok, .vacant)
      ∧ siteAfter (.clearSite 0 16) base = (some .badField, .vacant)
      ∧ siteAfter (.clearSite 0 0) base = (some .state, .vacant)
      ∧ siteAfter (.clearSite 0 0) (site0 .fault base) = (some .ok, .seated)
      ∧ siteAfter (.clearSite 0 0) ((site0 .fault base).modSite 0 fun r => { r with contact := false })
        = (some .ok, .vacant) := by decide +kernel

/-- Site 0 with a debounced change found. -/
def changing (x : SiteState) : State := (site0 x base).modSite 0 fun r => { r with changeDue := true }

theorem test_contactRise_met :
    ((after (.contactRise 0) (changing .vacant)).site 0).state = .seated
      ∧ ((after (.contactRise 0) ((changing .vacant).modSite 0 fun r => { r with autopower := true })).site 0).state
        = .settling
      ∧ ((after (.contactRise 0) ((changing .vacant).modSite 0 fun r =>
          { r with autopower := true, attachedLane := some 1 })).site 0).state = .powerPending
      ∧ ((after (.contactRise 0) ((changing .fault).modSite 0 fun r => { r with contact := false })).site 0).state
        = .fault := by decide +kernel
/-- Sites 0 and 2 with an autopower claim found, and site 1 SETTLING. -/
def arriving : State :=
  let claim (r : SiteRecord) : SiteRecord := { r with changeDue := true, contact := false, autopower := true }
  (((base.modSite 0 claim).modSite 2 claim).modSite 4 claim).modSite 1 fun r =>
    { r with state := .settling, settle := ⟨7, false⟩ }

theorem test_claims_of_one_tick_are_one_event :
    let t := after (.contactRise 2) arriving
    (allSites.map fun i => ((t.site i).state, (t.site i).settle.left)).take 5
        = [(.settling, 100), (.settling, 100), (.settling, 100), (.vacant, 0), (.vacant, 0)]
      ∧ ((t.site 0).supply, (t.site 0).contact, (t.site 0).changeDue) = (true, true, false)
      ∧ (t.quietOf 0).left = 20 ∧ (t.quietOf 1).left = 0
      ∧ after (.contactRise 0) t = t := by decide +kernel
theorem test_claims_in_an_attached_quad_wait_one_by_one :
    let t := after (.contactRise 2) (arriving.modSite 3 fun r => { r with attachedLane := some 1 })
    (t.site 2).state = .powerPending ∧ (t.site 0).state = .vacant ∧ (t.site 0).changeDue = true := by decide +kernel
theorem test_contactFall_met :
    ((after (.contactFall 0) (changing .disabled)).site 0).state = .disabled
      ∧ ((after (.contactFall 0) (changing .seated)).site 0).state = .vacant
      ∧ ((after (.contactFall 0) (changing .ready)).site 0).supply = false
      ∧ ((after (.contactFall 0) (changing .ready)).quietOf 0).left = 20 := by decide +kernel
theorem test_supplyFaultTrip_met :
    let t := after (.supplyFaultTrip 0) ((measuring .capturing).modSite 0 fun r => { r with tripDue := true })
    (t.site 0).state = .fault ∧ (t.site 0).faults = 1 ∧ t.link.alerts.supplyFault = 1 ∧ (t.lane 0).state = .idle
      ∧ t.jobs = [] ∧ (t.slot 0).record?.map (·.code) = some .supplyFault
      ∧ ((after (.supplyFaultTrip 0) ((site0 .seated base).modSite 0 fun r => { r with tripDue := true })).site 0).state
        = .seated := by decide +kernel
theorem test_SwitchEventReachesLanes_met :
    let t := after (.powerOff 0 1) ((measuring .capturing).modSite 1 fun r => { r with state := .ready, supply := true })
    (t.lane 0).state = .idle ∧ (t.jobs.map fun j => (j.running, j.retries)) = [(none, 1)]
      ∧ ((after (.powerOff 0 1) ((measuring .reducing).modSite 1 fun r => { r with state := .ready })).lane 0).state
        = .reducing
      ∧ (((after (.powerOff 0 0) (measuring .capturing)).slot 0).record?.map (·.code)) = some .powerRemoved := by
  decide +kernel
theorem test_SwitchEvent_reloads_and_releases :
    let s := (((measuring .capturing).modSite 1 fun r => { r with state := .settling, settle := ⟨7, false⟩ }).modSite 2
      fun r => { r with state := .powerPending }).modSite 4 fun r => { r with state := .settling, settle := ⟨7, false⟩ }
    let t := quadEvent 0 [3] .powerOff s
    (t.site 1).settle.left = 100 ∧ (t.site 2).state = .settling ∧ (t.site 2).supply = true ∧ (t.site 4).settle.left = 7
      ∧ (t.site 0).attachedLane = none ∧ (t.quietOf 0).left = 20 ∧ (t.quietOf 1).left = 0 := by decide +kernel
theorem test_takeSwitchEvent_met :
    isMeasuring ((measuring .attaching).lane 0).state = true ∧ ((measuring .attaching).lane 0).run.kind = some .measure
      ∧ ((checking .capturing).lane 0).run.kind ≠ some .measure
      ∧ ((takeSwitchEvent [0] .faultTrip 0 0 (checking .capturing)).lane 0).state = .capturing
      ∧ ((takeSwitchEvent [0] .switchOn 0 0 (measuring .capturing)).lane 0).state = .capturing
      ∧ ((takeSwitchEvent [1] .restartOff 0 0 (measuring .capturing)).lane 0).state = .capturing
      ∧ ((takeSwitchEvent [1] .switchOn 0 0 (measuring .capturing)).lane 0).state = .idle := by decide +kernel
theorem test_release_met :
    let s := site0 .powerPending base
    quadAttached s 0 = false ∧ quadPending s 0 = true ∧ ((release 0 s).site 0).state = .settling
      ∧ ((release 0 s).site 0).settle.left = 100 ∧ ((release 0 s).quietOf 0).left = 20
      ∧ ((release 0 (s.modSite 3 fun r => { r with attachedLane := some 1 })).site 0).state = .powerPending
      ∧ ((detach 0 ((measuring .capturing).modSite 1 fun r => { r with state := .powerPending })).site 1).state
        = .settling := by decide +kernel
theorem test_AnnouncedSiteEndsItsJobs_met :
    let t := announce 0 (listed (.measure 0) none ready)
    t.jobs = [] ∧ t.results.queue = [0] ∧ ((t.slot 0).record?.map (·.code)) = some .siteGone
      ∧ (t.site 0).lastJobId = some 1 := by decide +kernel

/-! ### Ticks and countdowns -/

theorem test_TickCountsAndSamples_met :
    let s := (site0 .settling base).modSite 0 fun r => { r with settle := ⟨2, false⟩, run := 4 }
    let t := after (.serviceTick 0 1 23) s
    s.pins.resetn = true ∧ t.ref.tick = 1001 ∧ (t.site 0).settle = ⟨1, false⟩ ∧ (t.site 0).run = 5
      ∧ (t.site 0).changeDue = true ∧ (t.site 0).tripDue = true ∧ (t.lane 1).calCounter.left = 9999
      ∧ t.laneOrder = 23 := by decide +kernel
theorem test_tick_takes_what_is_owed :
    let s := (site0 .settling base).modSite 0 fun r => { r with settle := ⟨1, true⟩ }
    ((after (.serviceTick 1 0 0) s).site 0).state = .ready ∧ ((after (.serviceTick 1 0 0) s).site 0).settle.left = 0 := by
  decide +kernel
theorem test_TickCountsAndSamples_nothing_owed_met :
    (∀ i, (base.site i).changeDue = false ∧ (base.site i).tripDue = false ∧ (base.site i).settle.due = false)
      ∧ (∀ q, (base.quietOf q).due = false) ∧ base.link.gap.due = false ∧ base.link.busy.due = false
      ∧ (∀ l, let c := base.lane l
          c.calCounter.due = false ∧ c.holdLeft.due = false ∧ c.run.budget.due = false
            ∧ c.run.attach.due = false ∧ c.run.capture.due = false ∧ c.run.reduce.due = false
            ∧ ¬ (c.state = .acquiring ∧ 40 ≤ acquireAge base l) ∧ (c.state = .idle → c.owed = 0))
      ∧ (∀ j ∈ base.jobs, ∀ l, mayStart base j l = false) := by decide +kernel
theorem test_CountdownsExpire_met :
    ((after (.settleExpiry 0) ((site0 .settling base).modSite 0 fun r => { r with settle := ⟨1, true⟩ })).site 0).state
        = .ready
      ∧ ((after (.quietExpiry 3) (base.setQuiet 3 ⟨1, true⟩)).quietOf 3).left = 0
      ∧ ((after (.holdExpiry 2) held).lane 2).hold = false ∧ (after (.holdExpiry 2) held).link.alerts.holdExpired = 4
      ∧ ((after (.holdExpiry 2) held).lane 2).ring.isSome = true := by decide +kernel

/-! ### The reference and calibration -/

/-- The reference in a state with a progress. -/
def refIn (x : RefState) (p : Nat) : State :=
  { State.reset with ref := ⟨x, p, 0, if x = .locked then .refin else .backup, 5⟩ }

/-- What a check interval leaves of the reference. -/
def judged (x : RefState) (p edges : Nat) : RefState × Nat × Nat × TickSource :=
  let r := (after (.checkIntervalEnd edges) (refIn x p)).ref
  (r.state, r.progress, r.lastCheck, r.source)

theorem test_CheckIntervalJudged_absent :
    judged .absent 0 0 = (.absent, 0, 0, .backup) ∧ judged .absent 0 1 = (.qualifying, 0, 1, .backup)
      ∧ judged .absent 0 9799 = (.qualifying, 0, 9799, .backup)
      ∧ judged .absent 0 9800 = (.qualifying, 1, 9800, .backup)
      ∧ judged .absent 0 70000 = (.qualifying, 0, 65535, .backup) := by decide +kernel
theorem test_CheckIntervalJudged_qualifying :
    judged .qualifying 7 0 = (.absent, 0, 0, .backup) ∧ judged .qualifying 7 10201 = (.qualifying, 0, 10201, .backup)
      ∧ judged .qualifying 198 10200 = (.qualifying, 199, 10200, .backup)
      ∧ judged .qualifying 199 10000 = (.locked, 200, 10000, .refin) := by decide +kernel
theorem test_CheckIntervalJudged_locked :
    judged .locked 200 9800 = (.locked, 200, 9800, .refin) ∧ judged .locked 200 9799 = (.absent, 0, 9799, .backup)
      ∧ ((after (.checkIntervalEnd 10000) (refIn .qualifying 199)).lane 3).state = .calibrating
      ∧ (after (.checkIntervalEnd 10000) (refIn .qualifying 199)).alertSet .reference = true := by decide +kernel
theorem test_loss_of_reference :
    let t := after (.checkIntervalEnd 0) (measuring .reducing)
    (t.lane 0).state = .uncalibrated ∧ (t.lane 1).state = .uncalibrated ∧ (t.site 0).attachedLane = none
      ∧ (t.jobs.map fun j => (j.running, j.preemptions)) = [(none, 1)] := by decide +kernel

/-- Lane 0 owes calibrations and its counter is due. -/
def owing (n : Nat) (s : State) : State := s.modLane 0 fun c => { c with owed := n, calCounter := ⟨1, true⟩ }

theorem test_DueCalibrationsStart_met :
    ((after (.calCounterExpiry 0) (owing 1 base)).lane 0).owed = 2
      ∧ ((after (.calCounterExpiry 0) (owing 1 base)).lane 0).state = .idle
      ∧ ((after (.calCounterExpiry 0) (owing 2 base)).lane 0).state = .calibrating
      ∧ ((after (.calCounterExpiry 0) (owing 2 (measuring .capturing))).lane 0).state = .calibrating
      ∧ ((after (.calCounterExpiry 0) (owing 2 (measuring .capturing))).jobs.map (·.preemptions)) = [1] := by
  decide +kernel
theorem test_quietTimeCalibration_met :
    ((after (.quietTimeCalibration 0) (owing 1 base)).lane 0).state = .calibrating
      ∧ ((after (.quietTimeCalibration 0) base).lane 0).state = .idle
      ∧ ((after (.quietTimeCalibration 0) (owing 1 (listed (.measure 0) none ready))).lane 0).state = .idle := by
  decide +kernel

/-- Lane 0 at the end of a calibration with a number of failures before it. -/
def finishing (n : Nat) : State :=
  base.modLane 0 fun c => { c with state := .calibrating, calLeft := ⟨1, true⟩, calFails := n, owed := 3 }

/-- What the completion of a calibration leaves of lane 0. -/
def completed (n gain : Nat) (spread : Rat) : LaneState × Nat × Nat :=
  let c := (after (.calibrationComplete 0 gain spread) (finishing n)).lane 0
  (c.state, c.calFails, c.owed)

theorem test_CalibrationCompletes_met :
    completed 0 16 500 = (.idle, 0, 0) ∧ completed 1 1007 0 = (.idle, 0, 0) ∧ completed 0 15 0 = (.calibrating, 1, 3)
      ∧ completed 0 16 501 = (.calibrating, 1, 3) ∧ completed 1 1008 0 = (.faulted, 2, 3)
      ∧ (after (.calibrationComplete 0 1008 0) (finishing 1)).link.alerts.laneFaulted = 1 := by decide +kernel
theorem test_RecalibrateByState_met :
    (said (after (.recalibrate 0 4) base), said (after (.recalibrate 0 0) base)) = (some .badField, some .ok)
      ∧ ((after (.recalibrate 0 0) base).lane 0).state = .calibrating
      ∧ said (after (.recalibrate 0 0) State.reset) = some .state
      ∧ said (after (.recalibrate 0 0) (measuring .attaching)) = some .busy
      ∧ ((after (.recalibrate 0 0) (base.modLane 0 fun c => { c with state := .faulted, calFails := 2 })).lane 0).calFails
        = 0
      ∧ said (after (.recalibrate 0 3) (base.modLane 3 fun c => { c with state := .disabled })) = some .state := by
  decide +kernel
theorem test_LaneModeByState_met :
    said (after (.laneModeEnable 0 4) base) = some .badField
      ∧ told (after (.laneModeEnable 0 0) base) = [3]
      ∧ told (after (.laneModeEnable 0 0) (base.modLane 0 fun c => { c with state := .disabled })) = [4]
      ∧ told (after (.laneModeEnable 0 0) (State.reset.modLane 0 fun c => { c with state := .disabled })) = [2]
      ∧ said (after (.laneModeDisable 0 4) base) = some .badField
      ∧ told (after (.laneModeDisable 0 3) base) = [0]
      ∧ ((after (.laneModeDisable 0 2) held).lane 2).hold = false := by decide +kernel
theorem test_disable_ends_its_checks :
    (((after (.laneModeDisable 0 0) (checking .capturing)).slot 0).record?.map (·.code)) = some .noPath
      ∧ (((after (.laneModeDisable 0 0) (listed (.check 0) none base)).slot 0).record?.map (·.code)) = some .noPath
      ∧ (((after (.laneModeDisable 0 0) (measuring .capturing)).jobs.map (·.running))) = [none] := by decide +kernel

/-! ### Plans, limits, protection -/

/-- The status of a command on a state. -/
def status (i : Instr) (s : State) : Option Status := said (after i s)

/-- The boundary at 1. -/
def guarded : State := stored.modStore fun x => { x with boundary := 1 }

theorem test_PlanAndLimitWritesChecked_plans_met :
    planValid 10000 aPlan = true ∧ planValid 49 aPlan = false
      ∧ status (.writePlan 0 24 aPlan) base = some .badField ∧ status (.erasePlan 0 24) base = some .badField
      ∧ status (.writePlan 0 0 { aPlan with window := 0 }) stored = some .badField
      ∧ status (.writePlan 0 0 aPlan) guarded = some .isProtected ∧ status (.erasePlan 0 0) guarded = some .isProtected
      ∧ status (.writePlan 0 0 aPlan) (measuring .capturing) = some .inUse
      ∧ status (.erasePlan 0 0) (measuring .capturing) = some .inUse
      ∧ (after (.writePlan 0 23 aPlan) base).plan 23 = some aPlan ∧ (after (.erasePlan 0 0) stored).plan 0 = none := by
  decide +kernel
theorem test_PlanAndLimitWritesChecked_limits_met :
    limitsValid [aLimit] = true ∧ limitsValid [] = false
      ∧ status (.writeLimits 0 16 [aLimit]) base = some .badField ∧ status (.eraseLimits 0 16) base = some .badField
      ∧ status (.writeLimits 0 0 []) base = some .badField
      ∧ status (.writeLimits 0 0 [aLimit]) guarded = some .isProtected
      ∧ status (.eraseLimits 0 0) guarded = some .isProtected
      ∧ status (.writeLimits 0 0 [aLimit]) (measuring .capturing) = some .inUse
      ∧ status (.eraseLimits 0 0) (measuring .capturing) = some .inUse
      ∧ (after (.writeLimits 0 15 [aLimit]) base).limitSet 15 = some [aLimit]
      ∧ (after (.eraseLimits 0 0) stored).limitSet 0 = none := by decide +kernel
theorem test_PlanAndLimitConditions_bounds :
    (planValid 10000 { aPlan with nominal := 1000000 } && planValid 10000 { aPlan with nominal := 250000000 }
        && planValid 10000 { aPlan with metrics := 8, sampleExp := 11, band := some (1221, 1222), spots := [1221, 311889] })
      = true
      ∧ ([{ aPlan with nominal := 999999 }, { aPlan with nominal := 250000001 }, { aPlan with edge := 2 },
          { aPlan with flags := 4 }, { aPlan with stride := 0 }, { aPlan with stride := 4097 }, { aPlan with discard := 65 },
          { aPlan with sampleExp := 17 }, { aPlan with metrics := 0 }, { aPlan with metrics := 16 },
          { aPlan with metrics := 8, band := some (1221, 1222) }, { aPlan with band := some (1221, 1222) },
          { aPlan with metrics := 8, sampleExp := 11, band := some (1220, 1222) }, { aPlan with spots := [1221] },
          { aPlan with limitSet := some 16 }, { aPlan with retryLimit := 4 }, { aPlan with budget := 9 },
          { aPlan with budget := 20001 }, { aPlan with window := 2001 }].all fun p => !planValid 10000 p) = true := by
  decide +kernel
theorem test_limit_conditions_bounds :
    limitsValid (List.replicate 12 aLimit) = true
      ∧ ([{ aLimit with selector := 16 }, { aLimit with comparison := 3 }, { aLimit with bin := 0 },
          { aLimit with bin := 7 }, { aLimit with lo := 6 }, { aLimit with comparison := 0 },
          { aLimit with comparison := 1 }].all fun e => !limitsValid [e]) = true
      ∧ limitsValid (List.replicate 13 aLimit) = false := by decide +kernel
theorem test_ProtectMovesBoundary_met :
    told (after (.protect 0 none false) guarded) = [1] ∧ status (.protect 0 (some 25) true) base = some .badField
      ∧ (after (.protect 0 (some 24) false) guarded).store.boundary = 24
      ∧ (after (.protect 0 (some 0) true) guarded).store.boundary = 0
      ∧ status (.protect 0 (some 0) false) guarded = some .isProtected := by decide +kernel
theorem test_ProtectedAndUsedPlansStay_met :
    (step { guarded with pending := [.erasePlan 0 0] } = .next (after (.erasePlan 0 0) guarded))
      ∧ (0 : PlanIx).val < guarded.store.boundary := ⟨rfl, by decide⟩
theorem test_ProtectedAndUsedLimitsStay_met :
    (step { guarded with pending := [.eraseLimits 0 0] } = .next (after (.eraseLimits 0 0) guarded))
      ∧ guarded.plan 0 = some aPlan ∧ aPlan.limitSet = some (0 : LimitIx).val
      ∧ (∃ j ∈ (measuring .capturing).jobs, j.work = .measure 0) := ⟨rfl, rfl, rfl, _, List.mem_singleton_self _, rfl⟩
theorem test_reads :
    status (.readPlan 0 24) base = some .badField ∧ status (.readPlan 0 23) base = some .noSuch
      ∧ told (after (.readPlan 0 0) stored) = aPlan.bytes ++ [0, 0] ∧ status (.readLimits 0 16) base = some .badField
      ∧ status (.readLimits 0 15) base = some .noSuch
      ∧ told (after (.readLimits 0 0) guarded) = 1 :: aLimit.bytes ++ [1, 0] := by decide +kernel
theorem test_queries :
    told (after (.queryTimebase 0) base) = [2, 1, 0, 0, 3, 232, 200, 39, 16] ∧ status (.queryLane 0 4) base = some .badField
      ∧ status (.queryLane 0 3) base = some .ok ∧ status (.queryPaths 0 (some 16)) base = some .badField
      ∧ status (.queryPaths 0 none) base = some .ok ∧ status (.querySites 0) base = some .ok
      ∧ status (.queryQueue 0) base = some .ok := by decide +kernel

/-! ### Jobs -/

theorem test_MeasureEnqueues_met :
    status (.measure 0 16 0) ready = some .badField ∧ status (.measure 0 0 24) ready = some .badField
      ∧ status (.measure 0 0 1) ready = some .noSuch ∧ status (.measure 0 1 0) ready = some .state
      ∧ status (.measure 0 0 0) (listed (.measure 0) none ready) = some .inUse
      ∧ status (.measure 0 0 0) (ready.modLink fun k => { k with settings := { k.settings with requireChecked := true } })
        = some .noPath
      ∧ told (after (.measure 0 0 0) ready) = [1, 0] := by decide +kernel
theorem test_MeasureEnqueues_full :
    status (.measure 0 0 0) (allHandles.foldl (fun s h => s.setSlot h (.taken aRecord)) ready) = some .full
      ∧ lowestFree (allHandles.foldl (fun s h => s.setSlot h (.taken aRecord)) ready) = none := by decide +kernel
theorem test_AppendedJob_met :
    let s := (listed (.measure 0) none ready).modJc fun c => { c with lastJobId := 255 }
    s.jobs.length < 32 ∧ s.jc.lastJobId ≤ 255 ∧ s.slot 1 = .free
      ∧ ((appendJob none s ⟨.measure 0, 4⟩).jobs.map (·.id)) = [1, 2] := by decide +kernel
theorem test_BatchesEnqueueWhole_met :
    status (.screen 0 0 0) ready = some .badField ∧ status (.screen 0 1 24) ready = some .badField
      ∧ status (.screen 0 3 0) ready = some .state ∧ told (after (.screen 0 3 0) ready) = [1]
      ∧ told (after (.screen 0 1 0) ready) = [1, 1, 0, 1, 0]
      ∧ status (.checkPaths 0 0 1) base = some .badField ∧ status (.checkPaths 0 1 0) base = some .badField
      ∧ status (.checkPaths 0 1 16) base = some .badField
      ∧ told (after (.checkPaths 0 0x8000 0x9) base) = [1, 2, 15, 0, 1, 0, 15, 3, 2, 1]
      ∧ status (.checkPaths 0 0xFFFF 0xF) base = some .full := by decide +kernel
theorem test_screen_full :
    status (.screen 0 1 0) (allHandles.foldl (fun s h => s.setSlot h (.taken aRecord)) ready) = some .full
      ∧ told (after (.checkPaths 0 1 1) (listed (.check 0) none base)) = [0, 0] := by decide +kernel
theorem test_Batches_first_refused :
    (status (.screen 0 0x8002 1) (site0 .fault base), told (after (.screen 0 0x8002 1) base)) = (some .noSuch, [1])
      ∧ (status (.checkPaths 0 3 3) (site0 .fault base), told (after (.checkPaths 0 3 3) (site0 .fault base)))
        = (some .state, [0, 0])
      ∧ status (.screen 0 1 0) (listed (.check 3) none ready) = some .inUse
      ∧ (status (.checkPaths 0 1 0xE) (listed (.check 2) none base), told (after (.checkPaths 0 1 0xE)
          (listed (.check 2) none base))) = (some .inUse, [0, 2])
      ∧ status (.screen 0 1 0) (ready.modLink fun k => { k with settings := { k.settings with requireChecked := true } })
        = some .noPath
      ∧ (status (.checkPaths 0 0x8000 0xC) (base.modLane 3 fun c => { c with state := .disabled }),
          told (after (.checkPaths 0 0x8000 0xC) (base.modLane 3 fun c => { c with state := .disabled })))
        = (some .noPath, [15, 3]) := by decide +kernel
theorem test_nextBatchId :
    let s := ((listed (.check 0) none base).setJobs [{ aJob (.check 0) none with batch := some 1 }]).modJc fun c =>
      { c with lastBatchId := 255 }
    (told (after (.checkPaths 0 1 2) s)).head? = some 2 ∧ (after (.checkPaths 0 1 2) s).jc.lastBatchId = 2
      ∧ (after (.checkPaths 0 1 1) s).jc.lastBatchId = 255 := by decide +kernel
theorem test_CancelEndsSelected_met :
    status (.cancel 0 0 1) base = some .badField ∧ status (.cancel 0 1 0) base = some .badField
      ∧ status (.cancel 0 2 16) base = some .badField ∧ status (.cancel 0 4 1) base = some .badField
      ∧ status (.cancel 0 3 255) base = some .noSuch ∧ status (.cancel 0 2 15) base = some .noSuch
      ∧ told (after (.cancel 0 1 1) (listed (.measure 0) none ready)) = [1, 0]
      ∧ told (after (.cancel 0 2 0) (measuring .reducing)) = [1, 1]
      ∧ ((after (.cancel 0 2 0) (measuring .reducing)).lane 0).state = .idle := by decide +kernel
theorem test_PauseHoldsPairings_met :
    told (after (.pause 0) base) = [1] ∧ told (after (.resume 0) base) = [0]
      ∧ ((after .lanePairing ((listed (.measure 0) none ready).modJc fun c => { c with paused := true })).lane 0).state
        = .idle := by decide +kernel
theorem test_PairingTakesEarliestAndBest_met :
    let s := (listed (.measure 0) none ready).setPath 0 2 ⟨.good, { Floors.none with tie := some 40 }, some 7, 1⟩
    let t := after .lanePairing s
    mayStart s (aJob (.measure 0) none) 2 = true ∧ (t.lane 2).state = .attaching ∧ (t.lane 0).state = .idle
      ∧ (t.lane 2).run.budget.left = 100 ∧ (t.site 0).attachedLane = some 2
      ∧ (t.jobs.map (·.running)) = [some 2]
      ∧ ((after .lanePairing base).lane 0).state = .idle := by decide +kernel
theorem test_SlotsFitJobs_met : SlotsFitJobs (listed (.measure 0) none ready) := by
  refine ⟨by decide +kernel, by decide +kernel, by decide +kernel, ?_⟩
  have h : ∀ h : Handle, ((listed (.measure 0) none ready).slot h).isReserved = decide (0 = h) := by decide +kernel
  have e : (listed (.measure 0) none ready).jobs = [aJob (.measure 0) none] := rfl
  intro h'
  rw [h h', e]
  simp [aJob]

/-! ### The run of a job -/

/-- Lane 0 acquires for a MEASURE job, a number of ticks after its attach end. -/
def acquiring (age : Nat) (seen : Bool) (coarse : Option Int) : State :=
  onRun (fun r => { r with attachEnd := some (BitVec.ofNat 32 (1000 - age)), signalSeen := seen, coarse := coarse })
    (measuring .acquiring)

/-- The code of the record that the job's slot holds after a command. -/
def codeAfter (i : Instr) (s : State) : Option TermCode := ((after i s).slot 0).record?.map (·.code)

/-- The state of lane 0 after a command. -/
def laneAfter (i : Instr) (s : State) : LaneState := ((after i s).lane 0).state

theorem test_run_met :
    laneJob (measuring .capturing) 0 = some (aJob (.measure 0) (some 0))
      ∧ paramsOf (measuring .capturing) (.measure 0) = some ⟨10000000, 16, 100, 1, 1024, false⟩
      ∧ laneJob (checking .capturing) 0 = some (aJob (.check 0) (some 0))
      ∧ paramsOf (checking .capturing) (.check 0) = some checkParams := by decide +kernel
theorem test_attachEnd_met :
    let t := after (.attachEnd 0) (onRun (fun r => { r with attach := ⟨1, true⟩ }) (measuring .attaching))
    (t.lane 0).state = .acquiring ∧ (t.lane 0).run.attachEnd = some 1000 := by decide +kernel
/-- Rising edges of a 10 MHz signal. -/
def rising (first : Rat) (n : Nat) : EdgeRun := ⟨false, first, 100000000, n⟩

/-- Falling edges of a 10 MHz signal. -/
def falling (first : Rat) (n : Nat) : EdgeRun := ⟨true, first, 100000000, n⟩

/-- The edge tracker of lane 0 holds a count with its latest edge at 0. -/
def tracked (n : Nat) (s : State) : State := onRun (fun r => { r with tracker := ⟨some 0, n⟩ }) s

/-- Plan 0 has FALLING as its edge. -/
def onFalling (s : State) : State :=
  s.modStore fun x => { x with plans := x.plans.set 0 (some { aPlan with edge := 1 }) }

theorem test_noSignalWindowEnd_met :
    ((after (.noSignalWindowEnd 0 [rising 0 1]) (acquiring 2 false none)).lane 0).run.signalSeen = true
      ∧ ((after (.noSignalWindowEnd 0 [rising 0 3]) (acquiring 2 false none)).lane 0).run.tracker
        = ⟨some 200000000, 2⟩
      ∧ codeAfter (.noSignalWindowEnd 0 []) (acquiring 2 false none) = some .noSignal
      ∧ codeAfter (.noSignalWindowEnd 0 [falling 0 9]) (acquiring 2 false none) = some .noSignal
      ∧ laneAfter (.noSignalWindowEnd 0 []) (acquiring 1 false none) = .acquiring := by decide +kernel
theorem test_chosen_polarity :
    codeAfter (.noSignalWindowEnd 0 [rising 0 9]) (onFalling (acquiring 2 false none)) = some .noSignal
      ∧ laneAfter (.noSignalWindowEnd 0 [rising 0 9, falling 5 1]) (onFalling (acquiring 2 false none)) = .acquiring
      ∧ codeAfter (.noSignalWindowEnd 0 [falling 0 9])
          (running (.check 0) .acquiring (site0 .vacant stored)
            |> onRun fun r => { r with attachEnd := some 998 }) = some .normal := by decide +kernel
theorem test_coarseFrequencyCheck_met :
    let check (edges : List EdgeRun) (time : Rat) : Instr := .coarseFrequencyCheck 0 edges 0 time
    let s := tracked 1023 (acquiring 4 true none)
    codeAfter (check [rising 100000000 1, falling 0 9] 900000000) s = some .noSignal
      ∧ ((after (check [rising 100000000 2] 200000000) s).lane 0).run.coarse = some 0
      ∧ laneAfter (check [rising 100000000 2] 312500000) s = .discarding
      ∧ laneAfter (check [rising 100000000 2] 312500001) s = .acquiring
      ∧ laneAfter (check [rising 100000000 2] 200000000) (tracked 3 s) = .acquiring
      ∧ codeAfter (check [⟨false, 100000000, 100020000, 2⟩] 300000000) s = some .offFrequency := by
  decide +kernel
theorem test_lock_met :
    let s := tracked 1000 (acquiring 5 true (some 3))
    ((after (.lockAcquired ⟨0, [rising 100000000 24], 2400000000⟩) s).lane 0).run.discard = 1024
      ∧ laneAfter (.lockAcquired ⟨0, [rising 100000000 23], 2400000000⟩) s = .acquiring
      ∧ ((after (.lockAcquired ⟨0, [rising 100000000 23], 2400000000⟩) s).lane 0).run.tracker
        = ⟨some 2300000000, 1023⟩
      ∧ laneAfter (.lockAcquired ⟨0, [rising 112500001 1024], 102500000000⟩) s = .acquiring
      ∧ laneAfter (.lockAcquired ⟨0, [rising 100000000 24], 2400000000⟩) (tracked 1000 (acquiring 41 true (some 3)))
        = .acquiring
      ∧ laneAfter (.lockAcquired ⟨0, [rising 100000000 24], 2400000000⟩) (tracked 1000 (acquiring 40 true (some 3)))
        = .discarding := by decide +kernel
theorem test_lockWindowEnd_met :
    let s := tracked 1000 (acquiring 40 true (some 3))
    codeAfter (.lockWindowEnd ⟨0, [rising 100000000 23], 2300000000⟩) s = some .noLock
      ∧ laneAfter (.lockWindowEnd ⟨0, [rising 100000000 24], 2400000000⟩) s = .discarding
      ∧ laneAfter (.lockWindowEnd ⟨0, [], 0⟩) (tracked 1000 (acquiring 39 true (some 3))) = .acquiring
      ∧ codeAfter (.serviceTick 1 0 0) s = some .noLock := by decide +kernel
theorem test_tracker_starts_anew :
    track checkParams [rising 0 5, ⟨false, 500000000, 112500000, 3⟩, ⟨false, 850000000, 112500001, 1⟩] ⟨none, 0⟩
        = ⟨some 850000000, 0⟩
      ∧ track checkParams [rising 0 5, ⟨false, 487500000, 87500000, 3⟩, falling 3 7] ⟨none, 0⟩ = ⟨some 662500000, 7⟩
      ∧ track checkParams [⟨false, 0, 112500001, 9⟩] ⟨some 0, 900⟩ = ⟨some 900000008, 0⟩ := by decide +kernel
theorem test_check_acquisition_ends_normal_and_bad :
    let gap : List EdgeRun := [rising 0 2, rising 212500001 1]
    codeAfter (.lossOfLock ⟨0, gap, 212500001⟩) (checking .discarding) = some .normal
      ∧ ((after (.lossOfLock ⟨0, gap, 212500001⟩) (checking .discarding)).path 0 0).rating = .bad
      ∧ codeAfter (.lossOfLock ⟨0, gap, 212500001⟩) (measuring .discarding) = some .noLock := by decide +kernel
theorem test_lossOfLock_met :
    codeAfter (.lossOfLock ⟨0, [rising 0 1], 112500001⟩) (measuring .capturing) = some .noLock
      ∧ laneAfter (.lossOfLock ⟨0, [rising 0 1], 112500000⟩) (measuring .capturing) = .capturing
      ∧ codeAfter (.lossOfLock ⟨0, [⟨false, 0, 87499999, 2⟩], 87499999⟩) (measuring .capturing) = some .noLock
      ∧ laneAfter (.lossOfLock ⟨0, [⟨false, 0, 87500000, 2⟩, falling 5 1], 87500000⟩) (measuring .discarding) = .discarding
      ∧ laneAfter (.lossOfLock ⟨0, [rising 0 1], 112500001⟩) (measuring .acquiring) = .acquiring := by decide +kernel
theorem test_discardComplete_met :
    let s := tracked 1024 (onRun (fun r => { r with discard := 1024 }) (measuring .discarding))
    let t := after (.discardComplete ⟨0, [rising 100000000 1023, falling 0 9], 500000000000⟩) s
    (t.lane 0).run.discard = 1 ∧ (t.lane 0).state = .discarding
      ∧ laneAfter (.discardComplete ⟨0, [rising 102400000000 1], 500000000000⟩) t = .capturing
      ∧ ((after (.discardComplete ⟨0, [rising 100000000 2000], 500000000000⟩) s).lane 0).run.tracker = ⟨some 102400000000, 1024⟩
      ∧ ((after (.discardComplete ⟨0, [rising 100000000 1024], 500000000000⟩) s).lane 0).run.capture.left = 0
      ∧ codeAfter (.discardComplete ⟨0, [rising 112500001 1], 500000000000⟩) s = some .noLock := by decide +kernel
theorem test_discardComplete_check_met :
    let s := onRun (fun r => { r with discard := 1 }) (checking .discarding)
    ((after (.discardComplete ⟨0, [rising 100000000 1], 500000000000⟩) s).lane 0).run.capture.left = 60
      ∧ laneAfter (.discardComplete ⟨0, [], 500000000000⟩) s = .discarding := by decide +kernel
theorem test_sampleComplete_met :
    let t := after (.sampleComplete 0 [rising 5 1, falling 7 9, rising 100000008 2] (-1) 9000000000) (measuring .capturing)
    (t.lane 0).captured = 1 ∧ (t.lane 0).acc = some ⟨0, 0, 3, 9⟩ ∧ (t.lane 0).ring = some ⟨1, 0, [⟨0, 3, 0⟩]⟩
      ∧ (t.lane 0).memory = [⟨5, 100000003, 100000000⟩]
      ∧ codeAfter (.sampleComplete 0 [⟨false, 5, 112500001, 3⟩] (-1) 9000000000) (measuring .capturing) = some .noLock
      ∧ ((after (.sampleComplete 0 [rising 0 2, falling 3 9] (-1) 9000000000) (measuring .capturing)).lane 0).captured = 0
      ∧ laneAfter (.sampleComplete 0 [⟨false, 5, 112500000, 2⟩, rising 200000005 1] (-1) 9000000000) (measuring .capturing)
        = .capturing := by decide +kernel
theorem test_sample_at_stride :
    let t := after (.sampleComplete 0 [rising 0 3] (-1) 9000000000) (measuring .capturing)
    ((after (.sampleComplete 0 [rising 100000000 18] (-1) 9000000000) t).lane 0).memory.map (·.stamp) = [0, 1600000000]
      ∧ ((after (.sampleComplete 0 [rising 100000000 17] (-1) 9000000000) t).lane 0).captured = 1
      ∧ codeAfter (.sampleComplete 0 [rising 100000000 3, rising 420000000 15] (-1) 9000000000) t = some .noLock
      ∧ (edgeTimes 18 [rising 100000000 18]).drop 15 = [1600000000, 1700000000, 1800000000] := by decide +kernel
theorem test_last_sample_met :
    let s := tracked 0 ((measuring .capturing).modLane 0 fun c => { c with captured := 1023 })
    laneAfter (.sampleComplete 0 [rising 100000000 18] (-1) 9000000000) s = .reducing
      ∧ ((after (.sampleComplete 0 [rising 100000000 18] (-1) 9000000000) s).lane 0).run.reduce.left = 1 := by decide +kernel
theorem test_first_edges :
    firstEdges 4 [rising 0 3, rising 300000000 9] = [rising 0 3, rising 300000000 1]
      ∧ edgeTimes 4 [rising 0 3, rising 300000000 9] = [0, 100000000, 200000000, 300000000]
      ∧ edgeSpan [rising 0 3, rising 300000000 9] = 1100000000 ∧ firstEdges 0 [rising 0 3] = [] := by decide +kernel
theorem test_checkCaptureEnd_met :
    let s := onRun (fun r => { r with capture := ⟨1, true⟩ }) (checking .capturing)
    laneAfter (.checkCaptureEnd 0) (s.modLane 0 fun c => { c with captured := 4097 }) = .reducing
      ∧ ((after (.checkCaptureEnd 0) (s.modLane 0 fun c => { c with captured := 4097 })).lane 0).run.reduce.left = 3 := by
  decide +kernel

/-- Three samples of a 10 MHz signal of stride 16, all on the line. -/
def line : List Sample :=
  [⟨0, 100000000, 100000000⟩, ⟨1600000000, 100000000, 100000000⟩, ⟨3200000000, 100000000, 100000000⟩]

theorem test_reductionEnd_met :
    let s := onRun (fun r => { r with reduce := ⟨1, true⟩ })
      ((measuring .reducing).modLane 0 fun c => { c with captured := 3, memory := line, ring := some ⟨1, 0, []⟩ })
    let t := after (.reductionEnd 0) s
    (t.slot 0).record?.map (fun r => (r.code, r.freqError, r.verdict)) = some (.normal, some 0, some ⟨0, none, 0⟩)
      ∧ (t.slot 0).record?.map (·.figures) = some { Figures.none with
          periodRms := some ⟨0, .none⟩, periodPp := some ⟨0, .none⟩ }
      ∧ (t.lane 0).state = .idle ∧ (t.lane 0).hold = true ∧ t.results.queue = [0] := by decide +kernel
theorem test_budgetExpiry_met :
    codeAfter (.budgetExpiry 0) (onRun (fun r => { r with budget := ⟨1, true⟩ }) (measuring .discarding)) = some .timeout
      ∧ laneAfter (.budgetExpiry 0) (onRun (fun r => { r with budget := ⟨1, true⟩ }) (measuring .reducing)) = .reducing := by
  decide +kernel
theorem test_GivenBackJobIsDecided_met :
    ((giveBack 0 .disturbed .idle (measuring .capturing)).jobs.map fun j => (j.running, j.retries)) = [(none, 1)]
      ∧ ((giveBack 0 .refLost .uncalibrated (site0 .vacant (measuring .reducing))).slot 0).record?.map (·.code)
        = some .siteGone
      ∧ ((giveBack 0 .preempted .disabled (checking .capturing)).slot 0).record?.map (·.code) = some .noPath
      ∧ ((giveBack 0 .disturbed .idle ((measuring .capturing).setJobs
          [{ aJob (.measure 0) (some 0) with retries := 1 }])).slot 0).record?.map (·.code) = some .disturbed := by
  decide +kernel

/-! ### Figures and verdicts -/

theorem test_rounding :
    (roundHalfAway (5 / 2), roundHalfAway (-5 / 2), roundHalfAway (7 / 3)) = (3, -3, 2)
      ∧ (roundSqrt 2, roundSqrt (9 / 4), roundSqrt (25 / 4), roundSqrt 0) = (1, 2, 3, 0) := by decide +kernel
theorem test_FigureRoundsAndCorrects_met :
    correctedFigure .unchecked (some 3) 25 = ⟨5, ⟨false, false, false, true⟩⟩
      ∧ correctedFigure .good none 25 = ⟨5, ⟨false, false, false, true⟩⟩
      ∧ correctedFigure .good (some 3) 25 = ⟨4, ⟨false, true, false, false⟩⟩
      ∧ correctedFigure .marginal (some 5) 25 = ⟨0, ⟨false, false, true, false⟩⟩
      ∧ correctedFigure .good none (2147483648 * 2147483648) = ⟨2147483647, ⟨true, false, false, true⟩⟩ := by
  decide +kernel
theorem test_log10 : round100Log10 1000 = 300 ∧ round100Log10 (1 / 100) = -200 ∧ round100Log10 2 = 30 := by
  decide +kernel

/-- The parameters of a run at 10 MHz, its stride 1. -/
def everyEdge : RunParams := ⟨10000000, 1, 100, 1, 1024, false⟩

theorem test_measures :
    let m := measuresOf everyEdge [⟨0, 3, 5⟩, ⟨100000003, 5, 5⟩, ⟨200000000, 7, 9⟩]
    m = ⟨some 0, some 2, some 3, some (8 / 3), some 4, some (8 / 3), some 2⟩ := by decide +kernel
theorem test_segments :
    (segments (List.replicate 1024 0)).length = 1 ∧ (segments (List.replicate 1023 0)).length = 0
      ∧ (segments (List.replicate 1536 0)).length = 2 := by decide +kernel
theorem test_binTerms :
    binTerms [4, 8] 3 = [(0, 2), (0, -1), (0, -1), (1021, 4), (1022, -2), (1020, -2)]
      ∧ binCoeff (binTerms [4, 8] 3) 509 = -4 ∧ binPower [0, 0] 3 = 0 := by decide +kernel
theorem test_segment_met : (List.replicate 1024 (0 : Rat)).length = 1024 := List.length_replicate
theorem test_bins_and_levels :
    nearestBin ⟨156250000, 16, 100, 8, 65536, false⟩ 4800000 = 503
      ∧ nearestBin ⟨1024, 1, 1, 1, 1, false⟩ 7 = 7
      ∧ spotLevelOf everyEdge 9 0 = ⟨9, -2147483648, true⟩
      ∧ spotLevelOf ⟨156250000, 16, 100, 8, 65536, false⟩ 1000000 (4 / 100) = ⟨1000000, -1371, false⟩ := by
  decide +kernel

/-- A deposit of a frequency error. -/
def found (freq : Option Int) : Deposit := ⟨.normal, some 0, none, freq, .none, [], .none, false⟩

theorem test_DepositFillsSlot_met :
    let s := listed (.measure 0) none ready
    let verdict (s : State) := ((deposit (aJob (.measure 0) none) (found (some 6)) s).slot 0).record?.map (·.verdict)
    verdict s = some (some ⟨3, some 0, 0⟩)
      ∧ verdict (s.modStore fun x => { x with limits := x.limits.set 0 none }) = some none
      ∧ ((deposit (aJob (.check 2) none) { found none with pathUpdated := true }
          ((listed (.check 2) none base).setPath 0 2 ⟨.marginal, .none, some 7, 1⟩)).slot 0).record?.map
            (fun r => (r.rating, r.pathUpdated, r.verdict)) = some (.marginal, true, none) := by decide +kernel
theorem test_VerdictIsFirstFailure_met :
    judge (found (some 5)) [aLimit] = ⟨0, none, 0⟩ ∧ judge (found (some 6)) [aLimit] = ⟨3, some 0, 0⟩
      ∧ judge (found none) [aLimit] = ⟨0, none, 1⟩
      ∧ judge (found (some 1)) [⟨1, 0, 0, 9, 2⟩, ⟨0, 0, 0, 1, 4⟩, ⟨0, 1, 2, 0, 5⟩] = ⟨5, some 2, 1⟩ := by decide +kernel

/-! ### Results, snapshots, samples, settings -/

theorem test_TakeCompletionTakesHead_met :
    status (.takeCompletion 0) base = some .noSuch
      ∧ (after (.takeCompletion 0) ((slot5 (.filled aRecord)).modResults fun r => { r with queue := [5] })).slot 5
        = .taken aRecord
      ∧ told (after (.takeCompletion 0) ((slot5 (.filled aRecord)).modResults fun r => { r with queue := [5] }))
        = [5, 1, 0, 0, 0, 0, 1, 1, 1, 7, 0, 0, 3, 182, 0] := by decide +kernel
theorem test_ReadResultReports_met :
    status (.readResult 0 48) base = some .badField ∧ status (.readResult 0 47) base = some .noSuch
      ∧ status (.readResult 0 5) (slot5 .reserved) = some .noSuch
      ∧ told (after (.readResult 0 5) (slot5 (.filled aRecord))) = resultBytes 5 aRecord
      ∧ status (.readResult 0 5) (slot5 (.taken aRecord)) = some .ok := by decide +kernel
theorem test_FreeResultBySlot_met :
    status (.freeResult 0 48) base = some .badField ∧ status (.freeResult 0 47) base = some .noSuch
      ∧ status (.freeResult 0 5) (slot5 .reserved) = some .noSuch
      ∧ status (.freeResult 0 5) (slot5 (.filled aRecord)) = some .state
      ∧ (after (.freeResult 0 5) (slot5 (.taken aRecord))).slot 5 = .free := by decide +kernel
theorem test_SnapshotsLatchAndRead_met :
    status (.snapshot 0 0) base = some .badField ∧ status (.snapshot 0 16) base = some .badField
      ∧ told (after (.snapshot 0 3) (measuring .capturing)) = [2, 0, 0, 1, 2]
      ∧ ((after (.snapshot 0 3) (measuring .capturing)).lane 1).latch.map (·.noData) = some true
      ∧ told (after (.snapshot 0 8) (base.modLane 3 fun c => { c with latch := some (snapshotOf base 3 false) }))
        = [1, 3, 1] := by decide +kernel
theorem test_readSnapshot_met :
    status (.readSnapshot 0 4) base = some .badField ∧ status (.readSnapshot 0 3) base = some .ok
      ∧ ((after (.readSnapshot 0 3) (base.modLane 3 fun c => { c with latch := some (snapshotOf base 3 false) })).lane
        3).latch = none := by decide +kernel
theorem test_SamplesReadInWindows_met :
    status (.readSamples 0 4 10 64 0) held = some .badField ∧ status (.readSamples 0 2 10 65 0) held = some .badField
      ∧ status (.readSamples 0 2 10 64 2) held = some .badField
      ∧ status (.readSamples 0 0 10 64 0) (measuring .capturing) = some .busy
      ∧ status (.readSamples 0 3 10 64 0) held = some .noSuch ∧ status (.readSamples 0 2 9 64 0) held = some .badField
      ∧ status (.readSamples 0 2 13 64 0) held = some .badField
      ∧ (after (.readSamples 0 2 10 64 1) held).link.follow = some ⟨2, 10, 12, 64, 10, false⟩
      ∧ (told (after (.readSamples 0 2 12 512 0) held)).length = 21 := by decide +kernel

/-- A follow context on lane 2. -/
def following (stale : Bool) : State := held.modLink fun k => { k with follow := some ⟨2, 10, 12, 64, 11, stale⟩ }

theorem test_next_met :
    status .nextBlock held = some .state ∧ status .nextBlock (following true) = some .noSuch
      ∧ (after .nextBlock (following true)).link.follow = none
      ∧ (told (after .nextBlock (following false))).length = 33
      ∧ (after .nextBlock (following false)).link.follow = some ⟨2, 10, 12, 64, 10, false⟩ := by decide +kernel
theorem test_ReleaseLaneEndsHold_met :
    status (.releaseLane 0 4) held = some .badField ∧ told (after (.releaseLane 0 2) held) = [0]
      ∧ told (after (.releaseLane 0 3) held) = [1] ∧ ((after (.releaseLane 0 2) held).lane 2).hold = false := by
  decide +kernel
theorem test_SetConfigByOwner_bounds :
    ([(0, 999), (0, 60001), (1, 501), (2, 0), (2, 51), (3, 99), (3, 60001), (4, 0), (4, 201), (5, 79), (5, 100001),
      (6, 2), (7, 64), (8, 0)].all fun x => status (.setConfig 0 x.1 x.2) base == some .badField) = true
      ∧ ([(0, 1000), (0, 60000), (1, 0), (1, 500), (2, 1), (2, 50), (3, 100), (3, 60000), (4, 1), (4, 200), (5, 80),
        (5, 100000), (6, 0), (6, 1), (7, 0), (7, 63)].all fun x => status (.setConfig 0 x.1 x.2) base == some .ok) = true := by
  decide +kernel
theorem test_SetConfigByOwner_inUse :
    status (.setConfig 0 0 1000)
        (base.modStore fun x => { x with plans := x.plans.set 0 (some { aPlan with budget := 2001 }) }) = some .inUse
      ∧ status (.setConfig 0 6 1) (listed (.measure 0) none ready) = some .inUse := by decide +kernel
theorem test_GetConfigReports_met :
    told (after (.getConfig 0 0) base) = [0, 0, 0, 39, 16] ∧ told (after (.getConfig 0 7) base) = [7, 0, 0, 0, 63]
      ∧ status (.getConfig 0 8) base = some .badField := by decide +kernel

/-! ### Invariants -/

theorem test_step_on_front : step { base with pending := [.pause 0] } = .next (after (.pause 0) base) := rfl
theorem test_EntriesFitSites_met : EntriesFitSites (listed (.measure 0) none ready) := by
  simp [EntriesFitSites, State.jobs, listed, State.setJobs, State.modJc]
theorem test_JobEndsOnItsLane_met :
    SlotsFitJobs (measuring .capturing) ∧ aJob (.measure 0) (some 0) ∈ (measuring .capturing).jobs
      ∧ ((measuring .capturing).lane 0).run.site = some 0 ∧ ((measuring .capturing).lane 0).run.jobId = some 1 := by
  refine ⟨⟨by decide +kernel, by decide +kernel, by decide +kernel, ?_⟩, by decide +kernel, by decide +kernel,
    by decide +kernel⟩
  have h : ∀ h : Handle, ((measuring .capturing).slot h).isReserved = decide (0 = h) := by decide +kernel
  have e : (measuring .capturing).jobs = [aJob (.measure 0) (some 0)] := rfl
  intro h'
  rw [h h', e]
  simp [aJob]
theorem test_site_invariants_met :
    SupplyFollowsState base ∧ SiteFieldsAgree base ∧ ContactFitsState base ∧ PendingQuadIsAttached base := by
  refine ⟨?_, ?_, ?_, ?_⟩
  · unfold SupplyFollowsState; decide +kernel
  · unfold SiteFieldsAgree; decide +kernel
  · have h : ∀ i, (base.site i).state = .vacant ∧ (base.site i).contact = false := by decide +kernel
    intro i
    simp [(h i).1, (h i).2]
  · unfold PendingQuadIsAttached; decide +kernel
theorem test_lane_invariants_met : DueCountBounded base ∧ HoldFitsLane held ∧ LanesNeedReference base := by
  refine ⟨?_, ?_, ?_⟩
  · unfold DueCountBounded; decide +kernel
  · unfold HoldFitsLane; decide +kernel
  · have h : ∀ l, (base.lane l).state = .idle := by decide +kernel
    intro l
    simp only [h l]
    decide +kernel
theorem test_record_invariants_met :
    RingFitsCount base ∧ ReferenceAgrees base ∧ LinkAgrees base ∧ MasksHaveFlags base ∧ SettingsInRange base := by
  refine ⟨?_, ?_, ?_, ?_, ?_⟩
  · have h : ∀ l, (base.lane l).ring = none ∧ (base.lane l).captured = 0 ∧ (base.lane l).acc = none := by
      decide +kernel
    intro l
    simp [(h l).1, (h l).2]
  · exact ⟨rfl, rfl⟩
  · exact ⟨rfl, by decide +kernel⟩
  · unfold MasksHaveFlags; decide +kernel
  · unfold SettingsInRange; decide +kernel
theorem test_store_invariants_met : PathEntriesAgree base ∧ StoredPlansValid base := by
  refine ⟨?_, ?_, ?_⟩
  · have h : ∀ i l, base.path i l = PathEntry.atReset := by decide +kernel
    intro i l
    simp only [h i l]
    exact ⟨rfl, rfl, rfl⟩
  · have h : ∀ p, base.plan p = none := by decide +kernel
    intro p r e
    simp [h p] at e
  · have h : ∀ x, base.limitSet x = none := by decide +kernel
    intro x l e
    simp [h x] at e
theorem test_work_invariants_met : SlotsFitJobs base ∧ AttachmentsAgree base ∧ QueueNamesFilled base := by
  refine ⟨⟨by decide, by decide, by decide, ?_⟩, ⟨by decide +kernel, by decide +kernel, ?_, ?_⟩, ?_⟩
  · have h : ∀ h, (base.slot h).isReserved = false := by decide +kernel
    have e : base.jobs = [] := rfl
    intro h'
    simp [h h', e]
  · have e : base.jobs = [] := rfl
    simp [e]
  · have h : ∀ l, (base.lane l).run.jobId = none := by decide +kernel
    intro l id e
    simp [h l] at e
  · exact ⟨by decide, by decide +kernel⟩

end Sys2Proof.Tests
end

section
/-!
SUPPORT. How a property is kept by every step: the changes that leave jobs, attachments and tables alone, what the row of a
run can do to its lane, and one rule that leads every command back to the few operations that change the records.
-/
namespace Sys2Proof.Machine

/-! ### Changes that leave jobs, attachments and tables alone -/

/-- A lane keeps its attachment and stays in or out of the measuring states (R83, R84). -/
structure SameRun (c d : LaneContext) : Prop where
  measuring : isMeasuring d.state = isMeasuring c.state
  site : d.run.site = c.run.site
  jobId : d.run.jobId = c.run.jobId
  kind : d.run.kind = c.run.kind

theorem SameRun.refl (c : LaneContext) : SameRun c c := ⟨rfl, rfl, rfl, rfl⟩

theorem SameRun.trans {c d e : LaneContext} (h : SameRun c d) (k : SameRun d e) : SameRun c e :=
  ⟨k.measuring.trans h.measuring, k.site.trans h.site, k.jobId.trans h.jobId, k.kind.trans h.kind⟩

/-- The sites, the job list, the results, the paths, the Plan Store and the settings stand, and every lane keeps its
attachment; clocks, countdowns, the reference and the rest of the link may move. -/
structure Steady (s t : State) : Prop where
  sites : t.sites = s.sites
  jobs : t.jobs = s.jobs
  results : t.results = s.results
  paths : t.paths = s.paths
  store : t.store = s.store
  settings : t.settings = s.settings
  lanes : ∀ l, SameRun (s.lane l) (t.lane l)

theorem Steady.refl (s : State) : Steady s s := ⟨rfl, rfl, rfl, rfl, rfl, rfl, fun _ => .refl _⟩

theorem Steady.trans {s t u : State} (h : Steady s t) (k : Steady t u) : Steady s u :=
  ⟨k.sites.trans h.sites, k.jobs.trans h.jobs, k.results.trans h.results, k.paths.trans h.paths,
    k.store.trans h.store, k.settings.trans h.settings, fun l => (h.lanes l).trans (k.lanes l)⟩

theorem steady_modLane {s : State} {l : Lane} {f : LaneContext → LaneContext}
    (h : SameRun (s.lane l) (f (s.lane l))) : Steady s (s.modLane l f) := by
  refine ⟨rfl, rfl, rfl, rfl, rfl, rfl, fun m => ?_⟩
  by_cases e : m = l
  · rw [e, lane_modLane_self]; exact h
  · rw [lane_modLane_of_ne s f e]; exact .refl _

theorem steady_mapLanes {s : State} {f : LaneContext → LaneContext} (h : ∀ c, SameRun c (f c)) :
    Steady s (s.mapLanes f) :=
  ⟨rfl, rfl, rfl, rfl, rfl, rfl, fun m => by rw [lane_mapLanes]; exact h _⟩

theorem steady_modLink {s : State} {f : LinkPort → LinkPort} (h : (f s.link).settings = s.link.settings) :
    Steady s (s.modLink f) := ⟨rfl, rfl, rfl, rfl, rfl, h, fun _ => .refl _⟩

theorem steady_onlyLink {s t : State} (h : OnlyLink s t) (e : t.link.settings = s.link.settings) : Steady s t := by
  rw [h]
  exact ⟨rfl, rfl, rfl, rfl, rfl, e, fun _ => .refl _⟩

theorem steady_modPins (s : State) (f : Pins → Pins) : Steady s (s.modPins f) :=
  ⟨rfl, rfl, rfl, rfl, rfl, rfl, fun _ => .refl _⟩

theorem steady_modRef (s : State) (f : Reference → Reference) : Steady s (s.modRef f) :=
  ⟨rfl, rfl, rfl, rfl, rfl, rfl, fun _ => .refl _⟩

theorem steady_setQuiet (s : State) (q : Quad) (c : Countdown) : Steady s (s.setQuiet q c) :=
  ⟨rfl, rfl, rfl, rfl, rfl, rfl, fun _ => .refl _⟩

theorem steady_draw (s : State) : Steady s s.draw := ⟨rfl, rfl, rfl, rfl, rfl, rfl, fun _ => .refl _⟩

theorem steady_drawReduction (s : State) : Steady s (drawReduction s) :=
  ⟨rfl, rfl, rfl, rfl, rfl, rfl, fun _ => .refl _⟩

theorem steady_pending (s : State) (rest : List Instr) : Steady s { s with pending := rest } :=
  ⟨rfl, rfl, rfl, rfl, rfl, rfl, fun _ => .refl _⟩

theorem steady_sampleLines (contact flt : BitVec 16) (order : Fin 24) (s : State) :
    Steady s (sampleLines contact flt order s) := ⟨rfl, rfl, rfl, rfl, rfl, rfl, fun _ => .refl _⟩

theorem steady_foldl {α : Type} (f : State → α → State) (h : ∀ s a, Steady s (f s a)) (l : List α) (s : State) :
    Steady s (l.foldl f s) :=
  foldl_related Steady .refl (fun _ _ _ => .trans) f h l s

/-- A lane out of the measuring states goes to another of them. -/
theorem steady_idle {s : State} {l : Lane} {f : LaneContext → LaneContext}
    (h : isMeasuring (s.lane l).state = false) (hf : isMeasuring (f (s.lane l)).state = false)
    (hr : (f (s.lane l)).run = (s.lane l).run) : Steady s (s.modLane l f) :=
  steady_modLane ⟨hf.trans h.symm, by rw [hr], by rw [hr], by rw [hr]⟩

theorem steady_startCalibration {s : State} {l : Lane} (h : isMeasuring (s.lane l).state = false) :
    Steady s (startCalibration l s) := steady_idle h rfl rfl

/-! ### A lane after an end or a giving back -/

theorem lane_leave_self (l : Lane) (dest : LaneState) (s : State) :
    (leave l dest s).lane l = { s.lane l with run := .idle, state := dest } := by
  simp [leave]

theorem lane_leave_of_ne {l m : Lane} (dest : LaneState) (s : State) (h : m ≠ l) :
    (leave l dest s).lane m = s.lane m := lane_modLane_of_ne s _ h

/-- A lane that ends its job leaves for the state named. -/
theorem laneEnd_leaves (l : Lane) (e : EndReport) (dest : LaneState) (s : State) :
    ∃ u, laneEnd l e dest s = leave l dest u := by
  unfold laneEnd
  split
  · exact ⟨_, rfl⟩
  · exact ⟨_, rfl⟩

/-- A lane that gives its job back leaves for the state named. -/
theorem giveBack_leaves (l : Lane) (cause : RequeueCause) (dest : LaneState) (s : State) :
    ∃ u, giveBack l cause dest s = leave l dest u := by
  unfold giveBack
  split
  · exact ⟨_, rfl⟩
  · split
    · exact ⟨_, rfl⟩
    · exact ⟨_, rfl⟩

theorem state_giveBack (l : Lane) (cause : RequeueCause) (dest : LaneState) (s : State) :
    ((giveBack l cause dest s).lane l).state = dest := by
  obtain ⟨u, e⟩ := giveBack_leaves l cause dest s
  rw [e, lane_leave_self]

/-! ### What the row of a run can do (R85 to R93) -/

/-- The row of a run leaves jobs and attachments alone, or ends the lane's job into IDLE. -/
def RunOutcome (l : Lane) (s t : State) : Prop :=
  Steady s t ∨ ∃ u e, Steady s u ∧ Steady (laneEnd l e .idle u) t

theorem RunOutcome.none (l : Lane) (s : State) : RunOutcome l s s := .inl (.refl s)

theorem runOutcome_laneEnd (l : Lane) (e : EndReport) {s u : State} (h : Steady s u) :
    RunOutcome l s (laneEnd l e .idle u) := .inr ⟨u, e, h, .refl _⟩

theorem runOutcome_acquisitionEnd (l : Lane) (code : TermCode) {s u : State} (h : Steady s u) :
    RunOutcome l s (acquisitionEnd l code u) := by
  simp only [acquisitionEnd]
  split <;> exact runOutcome_laneEnd l _ h

/-- The steps of a run that stay on the lane change the rest of its context alone. -/
theorem steady_run {s : State} {l : Lane} {f : LaneContext → LaneContext}
    (h : isMeasuring (s.lane l).state = true) (hf : isMeasuring (f (s.lane l)).state = true)
    (site : (f (s.lane l)).run.site = (s.lane l).run.site) (jobId : (f (s.lane l)).run.jobId = (s.lane l).run.jobId)
    (kind : (f (s.lane l)).run.kind = (s.lane l).run.kind) : Steady s (s.modLane l f) :=
  steady_modLane ⟨hf.trans h.symm, site, jobId, kind⟩

theorem steady_takeEdges (l : Lane) (p : RunParams) (edges : List EdgeRun) (s : State) :
    Steady s (takeEdges l p edges s) := steady_modLane ⟨rfl, rfl, rfl, rfl⟩

theorem runOutcome_attachEnd (l : Lane) (s : State) : RunOutcome l s (attachEnd l s) := by
  simp only [attachEnd]
  split
  · rename_i h
    exact .inl (steady_run (by rw [h.1]; rfl) rfl rfl rfl rfl)
  · exact .none l s

theorem runOutcome_noSignalWindowEnd (l : Lane) (edges : List EdgeRun) (s : State) :
    RunOutcome l s (noSignalWindowEnd l edges s) := by
  simp only [noSignalWindowEnd]
  split
  · split
    · exact .none l s
    · split
      · exact runOutcome_acquisitionEnd l _ (.refl s)
      · exact .inl ((steady_takeEdges l _ edges s).trans (steady_modLane ⟨rfl, rfl, rfl, rfl⟩))
  · exact .none l s

theorem measuring_steady {s t : State} (h : Steady s t) (l : Lane) :
    isMeasuring (t.lane l).state = isMeasuring (s.lane l).state := (h.lanes l).measuring

/-- A lock test in a measuring state goes to DISCARDING, or does what follows without lock. -/
theorem runOutcome_lockTest {l : Lane} {p : RunParams} {time : Rat} {without : State → State} {s u : State}
    (h : Steady s u) (m : isMeasuring (s.lane l).state = true) (hw : RunOutcome l s (without u)) :
    RunOutcome l s (lockTest l p time without u) := by
  unfold lockTest
  split
  · exact .inl (h.trans (steady_run ((measuring_steady h l).trans m) rfl rfl rfl rfl))
  · exact hw

theorem runOutcome_coarseFrequencyCheck (l : Lane) (edges : List EdgeRun) (time : Rat) (s : State) :
    RunOutcome l s (coarseFrequencyCheck l edges time s) := by
  simp only [coarseFrequencyCheck]
  split
  · rename_i h
    have m : isMeasuring (s.lane l).state = true := by rw [h.1]; rfl
    split
    · exact .none l s
    · have k (p : RunParams) (error : Int) : Steady s ((takeEdges l p edges s.draw).modLane l fun c =>
          { c with run := { c.run with coarse := some error } }) :=
        ((steady_draw s).trans (steady_takeEdges l p edges _)).trans (steady_modLane ⟨rfl, rfl, rfl, rfl⟩)
      split
      · exact runOutcome_acquisitionEnd l _ (.refl s)
      · split
        · exact runOutcome_acquisitionEnd l _ (k _ _)
        · exact runOutcome_lockTest (k _ _) m (.inl (k _ _))
  · exact .none l s

theorem runOutcome_lockAcquired (l : Lane) (edges : List EdgeRun) (time : Rat) (s : State) :
    RunOutcome l s (lockAcquired l edges time s) := by
  simp only [lockAcquired]
  split
  · rename_i h
    split
    · exact .none l s
    · have k (p : RunParams) := steady_takeEdges l p edges s
      exact runOutcome_lockTest (k _) (by rw [h.1]; rfl) (.inl (k _))
  · exact .none l s

theorem measuring_of_lockWindowOver {s : State} {l : Lane} (h : lockWindowOver s l = true) :
    isMeasuring (s.lane l).state = true := by
  simp only [lockWindowOver, Bool.and_eq_true, beq_iff_eq] at h
  rw [h.1.1]; rfl

theorem runOutcome_lockWindowEnd (l : Lane) (edges : List EdgeRun) (time : Rat) (s : State) :
    RunOutcome l s (lockWindowEnd l edges time s) := by
  simp only [lockWindowEnd]
  split
  · rename_i h
    split
    · exact .none l s
    · have k (p : RunParams) := steady_takeEdges l p edges s
      exact runOutcome_lockTest (k _) (measuring_of_lockWindowOver h) (runOutcome_acquisitionEnd l _ (k _))
  · exact .none l s

theorem runOutcome_lockWindowLapse (l : Lane) (s : State) : RunOutcome l s (lockWindowLapse l s) := by
  unfold lockWindowLapse
  split
  · exact runOutcome_acquisitionEnd l _ (.refl s)
  · exact .none l s

theorem runOutcome_lossOfLock (l : Lane) (edges : List EdgeRun) (time : Rat) (s : State) :
    RunOutcome l s (lossOfLock l edges time s) := by
  simp only [lossOfLock]
  split
  · split
    · exact .none l s
    · split
      · exact runOutcome_acquisitionEnd l _ (.refl s)
      · exact .none l s
  · exact .none l s

theorem runOutcome_discardComplete (l : Lane) (edges : List EdgeRun) (s : State) :
    RunOutcome l s (discardComplete l edges s) := by
  simp only [discardComplete]
  split
  · rename_i h
    have m : isMeasuring (s.lane l).state = true := by rw [h]; rfl
    split
    · exact .none l s
    · split
      · exact runOutcome_acquisitionEnd l _ (.refl s)
      · have k (p : RunParams) (passing : List EdgeRun) (left : Nat) : Steady s ((takeEdges l p passing s).modLane l
            fun c => { c with run := { c.run with discard := left } }) :=
          (steady_takeEdges l p passing s).trans (steady_modLane ⟨rfl, rfl, rfl, rfl⟩)
        split
        · exact .inl ((k _ _ _).trans (steady_run ((measuring_steady (k _ _ _) l).trans m) rfl rfl rfl rfl))
        · exact .inl (k _ _ _)
  · exact .none l s

theorem steady_enterReducing {l : Lane} {ticks : Nat} {s : State} (m : isMeasuring (s.lane l).state = true) :
    Steady s (enterReducing l ticks s) := steady_run m rfl rfl rfl rfl

theorem runOutcome_sampleComplete (l : Lane) (edges : List EdgeRun) (s : State) :
    RunOutcome l s (sampleComplete l edges s) := by
  simp only [sampleComplete]
  split
  · rename_i h
    have m : isMeasuring (s.lane l).state = true := by rw [h]; rfl
    split
    · exact .none l s
    · split
      · exact runOutcome_acquisitionEnd l _ (.refl s)
      · split
        · have k (p : RunParams) (id : Nat) (x : Sample) : Steady s (s.modLane l (takeSample p id x)) :=
            steady_modLane ⟨rfl, rfl, rfl, rfl⟩
          split
          · exact .inl ((k _ _ _).trans (steady_enterReducing ((measuring_steady (k _ _ _) l).trans m)))
          · exact .inl (k _ _ _)
        · exact .none l s
  · exact .none l s

theorem runOutcome_checkCaptureEnd (l : Lane) (s : State) : RunOutcome l s (checkCaptureEnd l s) := by
  simp only [checkCaptureEnd]
  split
  · rename_i h
    split
    · exact .none l s
    · exact .inl (steady_enterReducing (by rw [h.1]; rfl))
  · exact .none l s

theorem runOutcome_reductionEnd (l : Lane) (s : State) : RunOutcome l s (reductionEnd l s) := by
  simp only [reductionEnd]
  split
  · split
    · exact .none l s
    · exact .inr ⟨s, _, .refl s, steady_drawReduction _⟩
  · exact .none l s

theorem runOutcome_budgetExpiry (l : Lane) (s : State) : RunOutcome l s (budgetExpiry l s) := by
  simp only [budgetExpiry]
  split
  · split
    · exact .inl (steady_modLane ⟨rfl, rfl, rfl, rfl⟩)
    · exact runOutcome_laneEnd l _ (.refl s)
  · exact .none l s

end Sys2Proof.Machine
end

section
/-!
SUPPORT. One rule for an invariant: a property that the operations on sites, jobs, results and tables keep is kept by every
event, every request, every byte of the line and so by every step.
-/
namespace Sys2Proof.Machine

/-! ### Ends, requeues and switch events -/

/-- A property that outlasts what does not concern it, and every end and giving back of a job. -/
structure KeptByEnds (P : State → Prop) : Prop where
  steady : ∀ {s t}, Steady s t → P s → P t
  laneEnd : ∀ {s} l e {dest}, isMeasuring dest = false → P s → P (laneEnd l e dest s)
  giveBack : ∀ {s} l cause {dest}, isMeasuring dest = false → P s → P (giveBack l cause dest s)
  announce : ∀ {s} i, P s → P (announce i s)
  endChecksOn : ∀ {s} l, P s → P (endChecksOn l s)
  disturbQuad : ∀ {s} q, P s → P (disturbQuad q s)

section
variable {P : State → Prop} (h : KeptByEnds P)
include h

theorem KeptByEnds.run {l : Lane} {s t : State} (o : RunOutcome l s t) (hs : P s) : P t := by
  obtain k | ⟨u, e, k, k'⟩ := o
  · exact h.steady k hs
  · exact h.steady k' (h.laneEnd l e rfl (h.steady k hs))

theorem KeptByEnds.takeSwitchEvent (named : List Site) (cause : SwitchCause) (l : Lane) (i : Site) {s : State}
    (hs : P s) : P (takeSwitchEvent named cause l i s) := by
  simp only [Machine.takeSwitchEvent]
  split
  · exact hs
  · split
    · split
      · exact h.laneEnd l _ rfl hs
      · exact hs
    · split
      · exact hs
      · exact h.giveBack l _ rfl hs

theorem KeptByEnds.announceSwitch (q : Quad) (named : List Site) (cause : SwitchCause) (s : State) (l : Lane)
    (hs : P s) : P (announceSwitch q named cause s l) := by
  unfold Machine.announceSwitch
  split
  · exact hs
  · split
    · exact h.takeSwitchEvent named cause l _ hs
    · exact hs

theorem KeptByEnds.quadEvent (q : Quad) (named : List Site) (cause : SwitchCause) {s : State} (hs : P s) :
    P (quadEvent q named cause s) :=
  foldl_keeps P _ (h.announceSwitch q named cause) _ _ (h.disturbQuad q hs)

/-! ### The reference and calibration -/

theorem KeptByEnds.loseReference (s : State) (l : Lane) (hs : P s) : P (loseReference s l) := by
  unfold Machine.loseReference
  split
  case h_4 e => exact h.steady (steady_idle (by rw [e]; rfl) rfl rfl) hs
  case h_5 e => exact h.steady (steady_idle (by rw [e]; rfl) rfl rfl) hs
  all_goals first | exact hs | exact h.giveBack l _ rfl hs

theorem KeptByEnds.gainReference (s : State) (l : Lane) (hs : P s) : P (gainReference s l) := by
  unfold Machine.gainReference
  split
  · rename_i e
    exact h.steady (steady_startCalibration (by rw [e]; rfl)) hs
  · exact hs

omit h in
theorem steady_raiseAlert (a : Alert) (s : State) : Steady s (raiseAlert a s) := steady_modLink rfl

theorem KeptByEnds.checkIntervalEnd (edges : Nat) {s : State} (hs : P s) : P (checkIntervalEnd edges s) := by
  simp only [Machine.checkIntervalEnd]
  have counted := h.steady (steady_modRef s fun r => { r with lastCheck := min 65535 edges }) hs
  split
  · split
    · exact counted
    · exact foldl_keeps P _ h.loseReference _ _
        (h.steady ((steady_modRef _ _).trans (steady_raiseAlert _ _)) counted)
  · split
    · exact foldl_keeps P _ h.gainReference _ _
        (h.steady ((steady_modRef _ _).trans (steady_raiseAlert _ _)) counted)
    · exact h.steady (steady_modRef _ _) counted

theorem KeptByEnds.calCounterExpiry (l : Lane) {s : State} (hs : P s) : P (calCounterExpiry l s) := by
  simp only [Machine.calCounterExpiry]
  split
  · have counted := h.steady (steady_modLane (s := s) (l := l)
      (f := fun c => { c with owed := min 3 (c.owed + 1), calCounter := .load s.settings.calPeriod })
      ⟨rfl, rfl, rfl, rfl⟩) hs
    split
    · split
      · refine h.steady (steady_startCalibration ?_) (h.giveBack l .preempted rfl counted)
        rw [state_giveBack]; rfl
      · rename_i idle
        refine h.steady (steady_startCalibration ?_) counted
        rw [lane_modLane_self]
        exact eq_false_of_ne_true idle
    · exact counted
  · exact hs

theorem KeptByEnds.calibrationComplete (l : Lane) (gain : Nat) (spread : Rat) {s : State} (hs : P s) :
    P (calibrationComplete l gain spread s) := by
  simp only [Machine.calibrationComplete]
  split
  · rename_i c
    have idle : isMeasuring (s.lane l).state = false := by rw [c.1]; rfl
    have recorded := steady_modLane (s := s) (l := l)
      (f := fun c => { c with lastCal := some ⟨s.now, calibrationPasses gain spread, gain⟩ }) ⟨rfl, rfl, rfl, rfl⟩
    have idle' := (measuring_steady recorded l).trans idle
    refine h.steady (recorded.trans ?_) hs
    split
    · exact steady_idle idle' rfl rfl
    · split
      · have k := steady_modLane (l := l) (f := fun c : LaneContext => { c with calFails := 1 })
          (s := s.modLane l fun c => { c with lastCal := some ⟨s.now, calibrationPasses gain spread, gain⟩ })
          ⟨rfl, rfl, rfl, rfl⟩
        exact k.trans (steady_startCalibration ((measuring_steady k l).trans idle'))
      · exact (steady_idle idle' rfl rfl).trans (steady_onlyLink (onlyLink_raiseLaneFaulted l _) rfl)
  · exact hs

theorem KeptByEnds.quietTimeCalibration (l : Lane) {s : State} (hs : P s) : P (quietTimeCalibration l s) := by
  simp only [Machine.quietTimeCalibration]
  split
  · rename_i c
    exact h.steady (steady_startCalibration (by rw [c.1]; rfl)) hs
  · exact hs

theorem KeptByEnds.holdExpiry (l : Lane) {s : State} (hs : P s) : P (holdExpiry l s) := by
  simp only [Machine.holdExpiry]
  split
  · exact h.steady ((steady_modLane ⟨rfl, rfl, rfl, rfl⟩).trans
      (steady_onlyLink (onlyLink_raiseHoldExpired l _) rfl)) hs
  · exact hs

theorem KeptByEnds.quietExpiry (q : Quad) {s : State} (hs : P s) : P (quietExpiry q s) := by
  unfold Machine.quietExpiry
  split
  · exact h.steady (steady_setQuiet s q _) hs
  · exact hs

theorem KeptByEnds.gapExpiry {s : State} (hs : P s) : P (gapExpiry s) := by
  unfold Machine.gapExpiry
  split
  · split
    case h_4 => exact h.steady (steady_onlyLink (onlyLink_decideNak _ s) rfl) hs
    case h_5 => exact h.steady (steady_onlyLink (onlyLink_toHunt s) rfl) hs
    case h_6 => exact h.steady (steady_onlyLink (onlyLink_toHunt s) rfl) hs
    all_goals exact h.steady (steady_onlyLink (onlyLink_decideNak _ s) rfl) hs
  · exact hs

theorem KeptByEnds.restartBusyWindowEnd {s : State} (hs : P s) : P (restartBusyWindowEnd s) := by
  unfold Machine.restartBusyWindowEnd
  split
  · exact h.steady (steady_modLink rfl) hs
  · exact hs

theorem KeptByEnds.disableLane (l : Lane) {s : State} (hs : P s) : P (disableLane l s) := by
  simp only [Machine.disableLane]
  refine h.endChecksOn l ?_
  split
  · refine h.steady (steady_idle ?_ rfl rfl) (h.giveBack l .preempted rfl hs)
    rw [state_giveBack]; rfl
  · rename_i idle
    exact h.steady (steady_idle (eq_false_of_ne_true idle) rfl rfl) hs

end

/-! ### Requests and events -/

/-- New jobs of one request: two for one site are CHECK jobs for different lanes (R64 to R66). -/
def NewsFit (news : List NewJob) : Prop :=
  news.Pairwise fun a b => a.site = b.site → ∃ x y, a.work = .check x ∧ b.work = .check y ∧ x ≠ y

/-- A property that every operation on the records keeps, each under what its command has checked. -/
structure KeptByOps (P : State → Prop) : Prop extends KeptByEnds P where
  contactRise : ∀ {s} i, P s → P (contactRise i s)
  contactFall : ∀ {s} i, P s → P (contactFall i s)
  supplyFaultTrip : ∀ {s} i, P s → P (supplyFaultTrip i s)
  settleExpiry : ∀ {s} i, P s → P (settleExpiry i s)
  siteMode : ∀ {s} i e a t, P s → P (applySiteMode i e a t s).2
  claim : ∀ {s} i, (s.site i).state = .seated → P s → P (claimPower i s)
  powerOff : ∀ {s} i, (s.site i).state = .settling ∨ (s.site i).state = .ready → P s →
    P (switchOff i .seated .powerOff s)
  withdraw : ∀ {s} i, (s.site i).state = .powerPending → P s → P (s.modSite i fun r => { r with state := .seated })
  clear : ∀ {s} i, (s.site i).state = .fault → P s → P (enterSite i (restingState (s.site i).contact) s)
  pairing : ∀ {s} {j l}, nextPair s = some (j, l) → P s → P (pair j l s)
  append : ∀ {s} batch news, enqueueRefusal s news = none → hasRoom s news.length = true → NewsFit news → P s →
    P (appendJobs batch news s)
  cancel : ∀ {s} (x : Selector), P s → P ((s.jobs.filter x.selects).foldl cancelJob s)
  takeHead : ∀ {s} h rest r, s.results.queue = h :: rest → (s.slot h).record? = some r → P s →
    P (takeHead h rest r s)
  freeSlot : ∀ {s} h r, s.slot h = .taken r → P s → P (s.setSlot h .free)
  setPlan : ∀ {s} p r, (∀ x ∈ r, planValid s.settings.calPeriod x = true) → P s → P (setPlan p r s)
  setLimits : ∀ {s} x r, (∀ l ∈ r, limitsValid l = true) → P s → P (setLimits x r s)
  boundary : ∀ {s} b, P s → P (s.modStore fun x => { x with boundary := b })
  setting : ∀ {s} x v, outOfRange s.settings v x = false → settingInUse s v x = false → P s → P (writeSetting x v s)
  restart : ∀ {s}, P s → P (issueRestart s)
  reset : ∀ {s} contact rate, P (resetTo contact rate s)
  tick : ∀ {s} contact flt, P s → P (tickAll contact flt s)

theorem nodup_sitesIn (m : BitVec 16) : (sitesIn m).Nodup := (List.nodup_finRange 16).filter _

theorem nodup_of_lanesIn? {m : BitVec 8} {ls : List Lane} (h : lanesIn? m = some ls) : ls.Nodup := by
  unfold lanesIn? at h
  split at h
  · rw [← Option.some.inj h]
    exact (List.nodup_finRange 4).filter _
  · cases h

/-- The jobs of one SCREEN are for different sites (R65). -/
theorem newsFit_screen (p : PlanIx) (m : BitVec 16) : NewsFit ((sitesIn m).map fun i => ⟨.measure p, i⟩) := by
  rw [NewsFit, List.pairwise_map]
  exact (nodup_sitesIn m).imp fun ne same => absurd same ne

/-- The jobs of one CHECK PATHS are for different sites or different lanes (R66). -/
theorem newsFit_checkJobs {sites : List Site} {lanes : List Lane} (hs : sites.Nodup) (hl : lanes.Nodup) :
    NewsFit (checkJobs sites lanes) := by
  rw [NewsFit, checkJobs, List.pairwise_flatMap]
  constructor
  · intro i _
    rw [List.pairwise_map]
    exact hl.imp fun ne _ => ⟨_, _, rfl, rfl, ne⟩
  · refine hs.imp fun ne a ha b hb same => ?_
    obtain ⟨x, -, rfl⟩ := List.mem_map.1 ha
    obtain ⟨y, -, rfl⟩ := List.mem_map.1 hb
    exact absurd same ne

section
variable {P : State → Prop} (h : KeptByOps P)
include h

theorem KeptByOps.lanePairing {s : State} (hs : P s) : P (lanePairing s) := by
  unfold Machine.lanePairing
  split
  · exact hs
  · rename_i e
    exact h.pairing e hs

/-! ### Requests by their owners -/

theorem KeptByOps.enqueueBatch (item : Job → List Byte) {news : List NewJob} (fit : NewsFit news) {s : State}
    (hs : P s) : P (enqueueBatch item news s).2 := by
  unfold Machine.enqueueBatch
  split
  · exact hs
  · rename_i e
    unfold enqueueCheck at e
    split at e
    · cases e
    · rename_i taken
      split at e
      · rename_i room
        have k : Steady s (setBatch (nextBatchId s) s) := ⟨rfl, rfl, rfl, rfl, rfl, rfl, fun _ => .refl _⟩
        exact h.append (s := setBatch (nextBatchId s) s) _ news taken room fit (h.steady k hs)
      · cases e

theorem KeptByOps.reqMeasure (site plan : Nat) {s : State} (hs : P s) : P (reqMeasure site plan s).2 := by
  unfold Machine.reqMeasure
  split
  · simp only
    split
    · exact hs
    · rename_i e
      unfold enqueueCheck at e
      split at e
      · cases e
      · rename_i taken
        split at e
        · rename_i room
          exact h.append _ _ taken room (List.pairwise_singleton _ _) hs
        · cases e
  · exact hs

theorem KeptByOps.reqScreen (sites : BitVec 16) (plan : Nat) {s : State} (hs : P s) :
    P (reqScreen sites plan s).2 := by
  unfold Machine.reqScreen
  split
  · exact hs
  · split
    · exact hs
    · exact h.enqueueBatch _ (newsFit_screen _ sites) hs

theorem KeptByOps.reqCheckPaths (sites : BitVec 16) (lanes : BitVec 8) {s : State} (hs : P s) :
    P (reqCheckPaths sites lanes s).2 := by
  unfold Machine.reqCheckPaths
  split
  · exact hs
  · rename_i e
    split
    · exact hs
    · exact h.enqueueBatch _ (newsFit_checkJobs (nodup_sitesIn sites) (nodup_of_lanesIn? e)) hs

theorem KeptByOps.reqCancel (selector value : Nat) {s : State} (hs : P s) : P (reqCancel selector value s).2 := by
  unfold Machine.reqCancel
  split
  · exact hs
  · split
    · exact hs
    · rename_i x _ _ _ _ e
      rw [← e]
      exact h.cancel x hs

theorem KeptByOps.reqSiteMode (site : Nat) (enable autopower settle : Option Nat) {s : State} (hs : P s) :
    P (reqSiteMode site enable autopower settle s).2 := by
  unfold Machine.reqSiteMode
  split
  · exact h.siteMode _ _ _ _ hs
  · exact hs

theorem KeptByOps.reqPowerOn (site : Nat) {s : State} (hs : P s) : P (reqPowerOn site s).2 := by
  unfold Machine.reqPowerOn
  split
  · exact hs
  · split
    case h_1 e => exact h.claim _ e hs
    all_goals exact hs

theorem KeptByOps.reqPowerOff (site : Nat) {s : State} (hs : P s) : P (reqPowerOff site s).2 := by
  unfold Machine.reqPowerOff
  split
  · exact hs
  · split
    case h_1 e => show P (switchOff _ .seated .powerOff s); exact h.powerOff _ (.inl e) hs
    case h_2 e => show P (switchOff _ .seated .powerOff s); exact h.powerOff _ (.inr e) hs
    case h_3 e => exact h.withdraw _ e hs
    all_goals exact hs

theorem KeptByOps.reqClearSite (site : Nat) {s : State} (hs : P s) : P (reqClearSite site s).2 := by
  unfold Machine.reqClearSite
  split
  · exact hs
  · simp only
    split
    · rename_i e
      exact h.clear _ e hs
    · exact hs

theorem KeptByOps.reqRecalibrate (lane : Nat) {s : State} (hs : P s) : P (reqRecalibrate lane s).2 := by
  unfold Machine.reqRecalibrate
  split
  · exact hs
  · rename_i l _
    split
    case h_1 e =>
      split
      · exact h.steady (steady_startCalibration (by rw [e]; rfl)) hs
      · exact hs
    case h_2 e =>
      split
      · exact h.steady (steady_startCalibration (by rw [e]; rfl)) hs
      · exact hs
    case h_3 e =>
      split
      · have k : Steady s (s.modLane l fun c => { c with calFails := 0 }) := steady_modLane ⟨rfl, rfl, rfl, rfl⟩
        exact h.steady (k.trans (steady_startCalibration ((measuring_steady k l).trans (by rw [e]; rfl)))) hs
      · exact hs
    all_goals exact hs

theorem KeptByOps.reqLaneEnable (lane : Nat) {s : State} (hs : P s) : P (reqLaneEnable lane s).2 := by
  unfold Machine.reqLaneEnable
  split
  · exact hs
  · rename_i l _
    split
    · rename_i e
      have k : Steady s (s.modLane l fun c => { c with calFails := 0, state := .uncalibrated }) :=
        steady_idle (by rw [e]; rfl) rfl rfl
      simp only [laneStateReply]
      split
      · exact h.steady (k.trans (steady_startCalibration ((measuring_steady k l).trans (by rw [e]; rfl)))) hs
      · exact h.steady k hs
    · exact hs

theorem KeptByOps.reqLaneDisable (lane : Nat) {s : State} (hs : P s) : P (reqLaneDisable lane s).2 := by
  unfold Machine.reqLaneDisable
  split
  · exact hs
  · simp only [laneStateReply]
    split
    · exact hs
    · exact h.disableLane _ hs

theorem KeptByOps.reqWritePlan (index : Nat) (plan : Plan) {s : State} (hs : P s) :
    P (reqWritePlan index plan s).2 := by
  unfold Machine.reqWritePlan
  split
  · exact hs
  · split
    · exact hs
    · rename_i valid
      repeat' split
      all_goals first
        | exact hs
        | exact h.setPlan _ _ (by simpa using valid) hs

theorem KeptByOps.reqErasePlan (index : Nat) {s : State} (hs : P s) : P (reqErasePlan index s).2 := by
  unfold Machine.reqErasePlan
  repeat' split
  all_goals first
    | exact hs
    | exact h.setPlan _ _ (fun _ e => by cases e) hs

theorem KeptByOps.reqWriteLimits (index : Nat) (entries : List LimitEntry) {s : State} (hs : P s) :
    P (reqWriteLimits index entries s).2 := by
  unfold Machine.reqWriteLimits
  split
  · exact hs
  · split
    · exact hs
    · rename_i valid
      repeat' split
      all_goals first
        | exact hs
        | exact h.setLimits _ _ (by simpa using valid) hs

theorem KeptByOps.reqEraseLimits (index : Nat) {s : State} (hs : P s) : P (reqEraseLimits index s).2 := by
  unfold Machine.reqEraseLimits
  repeat' split
  all_goals first
    | exact hs
    | exact h.setLimits _ _ (fun _ e => by cases e) hs

theorem KeptByOps.reqProtect (boundary : Option Nat) {s : State} (hs : P s) : P (reqProtect boundary s).2 := by
  unfold Machine.reqProtect
  repeat' split
  all_goals first
    | exact hs
    | exact h.boundary _ hs

theorem KeptByOps.reqSnapshot (lanes : BitVec 8) {s : State} (hs : P s) : P (reqSnapshot lanes s).2 := by
  unfold Machine.reqSnapshot
  split
  · exact hs
  · split
    · exact hs
    · refine foldl_keeps P _ (fun s l hs => ?_) _ _ hs
      unfold latchLane
      split
      · exact hs
      · exact h.steady (steady_modLane ⟨rfl, rfl, rfl, rfl⟩) hs

theorem KeptByOps.reqReadSnapshot (lane : Nat) {s : State} (hs : P s) : P (reqReadSnapshot lane s).2 := by
  unfold Machine.reqReadSnapshot
  split
  · exact hs
  · rename_i l _
    split
    · have k : Steady s (s.modLane l fun c => { c with latch := none }) := steady_modLane ⟨rfl, rfl, rfl, rfl⟩
      exact h.steady k hs
    · exact hs

theorem KeptByOps.reqReleaseLane (lane : Nat) {s : State} (hs : P s) : P (reqReleaseLane lane s).2 := by
  unfold Machine.reqReleaseLane
  split
  · exact hs
  · rename_i l _
    split
    · have k : Steady s (s.modLane l endHold) := steady_modLane ⟨rfl, rfl, rfl, rfl⟩
      exact h.steady k hs
    · exact hs

theorem KeptByOps.setFollow (f : Option Follow) {s : State} (hs : P s) : P (setFollow f s) :=
  h.steady (steady_modLink rfl) hs

theorem KeptByOps.reqReadSamples (lane start window follow : Nat) {s : State} (hs : P s) :
    P (reqReadSamples lane start window follow s).2 := by
  unfold Machine.reqReadSamples readRing
  repeat' split
  all_goals first
    | exact hs
    | exact h.setFollow _ hs

theorem KeptByOps.reqNext {s : State} (hs : P s) : P (reqNext s).2 := by
  unfold Machine.reqNext
  repeat' split
  all_goals first
    | exact hs
    | exact h.setFollow _ hs

theorem KeptByOps.reqTakeCompletion {s : State} (hs : P s) : P (reqTakeCompletion s).2 := by
  unfold Machine.reqTakeCompletion
  split
  · exact hs
  · rename_i e
    split
    · exact hs
    · rename_i r
      exact h.takeHead _ _ _ e r hs

theorem KeptByOps.reqFreeResult (handle : Nat) {s : State} (hs : P s) : P (reqFreeResult handle s).2 := by
  unfold Machine.reqFreeResult
  split
  · exact hs
  · split
    case h_1 e => exact h.freeSlot _ _ e hs
    all_goals exact hs

theorem KeptByOps.reqSetConfig (setting value : Nat) {s : State} (hs : P s) : P (reqSetConfig setting value s).2 := by
  unfold Machine.reqSetConfig
  split
  · exact hs
  · split
    · exact hs
    · rename_i inRange
      split
      · exact hs
      · rename_i unused
        exact h.setting _ _ (eq_false_of_ne_true inRange) (eq_false_of_ne_true unused) hs

omit h in
/-- A query's owner changes nothing. -/
theorem queries_keep (s : State) :
    (∀ lane, (reqQueryLane lane s).2 = s) ∧ (∀ n, (reqReadPlan n s).2 = s) ∧ (∀ n, (reqReadLimits n s).2 = s)
      ∧ (∀ n, (reqReadResult n s).2 = s) ∧ (∀ n, (reqQueryPaths n s).2 = s) ∧ ∀ n, (reqGetConfig n s).2 = s := by
  refine ⟨fun _ => ?_, fun _ => ?_, fun _ => ?_, fun _ => ?_, fun _ => ?_, fun _ => ?_⟩
  · unfold reqQueryLane; split <;> rfl
  · unfold reqReadPlan; repeat' split
    all_goals rfl
  · unfold reqReadLimits; repeat' split
    all_goals rfl
  · unfold reqReadResult; repeat' split
    all_goals rfl
  · unfold reqQueryPaths; repeat' split
    all_goals rfl
  · unfold reqGetConfig; split <;> rfl

/-- Every owner keeps it (R179 step 5). -/
theorem KeptByOps.handle (i : Instr) {s : State} (hs : P s) : P (handle i s).2 := by
  obtain ⟨queryLane, readPlan, readLimits, readResult, queryPaths, getConfig⟩ := queries_keep s
  have link {f : LinkPort → LinkPort} (e : (f s.link).settings = s.link.settings) : P (s.modLink f) :=
    h.steady (steady_modLink e) hs
  have paused (flag : Bool) : P (setPause flag s).2 := by
    have k : Steady s (setPause flag s).2 := ⟨rfl, rfl, rfl, rfl, rfl, rfl, fun _ => .refl _⟩
    exact h.steady k hs
  cases i
  case siteMode => exact h.reqSiteMode _ _ _ _ hs
  case powerOn => exact h.reqPowerOn _ hs
  case powerOff => exact h.reqPowerOff _ hs
  case clearSite => exact h.reqClearSite _ hs
  case queryLane n => exact (queryLane n).symm ▸ hs
  case recalibrate => exact h.reqRecalibrate _ hs
  case laneModeEnable => exact h.reqLaneEnable _ hs
  case laneModeDisable => exact h.reqLaneDisable _ hs
  case writePlan => exact h.reqWritePlan _ _ hs
  case erasePlan => exact h.reqErasePlan _ hs
  case readPlan n => exact (readPlan n).symm ▸ hs
  case writeLimits => exact h.reqWriteLimits _ _ hs
  case eraseLimits => exact h.reqEraseLimits _ hs
  case readLimits n => exact (readLimits n).symm ▸ hs
  case protect => exact h.reqProtect _ hs
  case measure => exact h.reqMeasure _ _ hs
  case screen => exact h.reqScreen _ _ hs
  case checkPaths => exact h.reqCheckPaths _ _ hs
  case cancel => exact h.reqCancel _ _ hs
  case pause => exact paused true
  case resume => exact paused false
  case snapshot => exact h.reqSnapshot _ hs
  case readSnapshot => exact h.reqReadSnapshot _ hs
  case readSamples => exact h.reqReadSamples _ _ _ _ hs
  case nextBlock => exact h.reqNext hs
  case releaseLane => exact h.reqReleaseLane _ hs
  case takeCompletion => exact h.reqTakeCompletion hs
  case readResult n => exact (readResult n).symm ▸ hs
  case freeResult => exact h.reqFreeResult _ hs
  case queryPaths n => exact (queryPaths n).symm ▸ hs
  case setConfig => exact h.reqSetConfig _ _ hs
  case getConfig n => exact (getConfig n).symm ▸ hs
  case readAlerts => exact link (f := fun k => { k with alerts := .clear }) rfl
  case restart => exact link (f := fun k => { k with restartOwed := true }) rfl
  all_goals exact hs

/-! ### The link -/

theorem KeptByOps.takeBody (body : List Byte) {act : State → Response × State} (ha : ∀ {s}, P s → P (act s).2)
    {s : State} (hs : P s) : P (takeBody body act s) := by
  have ended : P (endFollow body s) := by
    unfold endFollow
    split
    · exact hs
    · exact h.setFollow _ hs
  simp only [Machine.takeBody]
  refine h.steady (steady_modLink rfl) ?_
  split
  · exact ended
  · exact ha ended

theorem KeptByOps.answer (body : List Byte) {s : State} (hs : P s) : P (answer body s).2 := by
  unfold Machine.answer
  split
  · exact hs
  · exact h.handle _ hs

theorem KeptByOps.swallowByte (x : Swallow) (b : Byte) {s : State} (hs : P s) : P (swallowByte x b s) := by
  unfold Machine.swallowByte
  repeat' split
  all_goals exact h.steady (steady_modLink rfl) hs

theorem KeptByOps.acceptByte (b : Byte) {s : State} (hs : P s) : P (acceptByte b s) := by
  have link {t : State} (k : OnlyLink s t) (e : t.link.settings = s.link.settings) : P t :=
    h.steady (steady_onlyLink k e) hs
  unfold Machine.acceptByte
  split
  · split
    · split
      · exact link rfl rfl
      · exact link rfl rfl
    · exact hs
  · exact link rfl rfl
  · exact link rfl rfl
  · unfold checkByte
    split
    · exact h.takeBody _ (h.answer _) hs
    · exact link rfl rfl
  · exact link rfl rfl
  · exact h.swallowByte _ b hs

theorem KeptByOps.receiveByte (b : Byte) (setup : Bool) {s : State} (hs : P s) : P (receiveByte b setup s) := by
  unfold Machine.receiveByte
  split
  · exact h.acceptByte b (h.steady (steady_modPins s _) hs)
  · exact hs

theorem KeptByOps.request (setup : Bool) (i : Instr) {act : State → Response × State}
    (ha : ∀ {s}, P s → P (act s).2) {s : State} (hs : P s) : P (request setup i act s) := by
  unfold Machine.request
  split
  · exact h.takeBody _ ha (h.steady (steady_modPins s _) hs)
  · exact foldl_keeps P _ (fun s b => h.receiveByte b setup) _ _ hs

theorem KeptByOps.replyComplete {s : State} (hs : P s) : P (replyComplete s) := by
  unfold Machine.replyComplete
  split
  · exact h.restart hs
  · exact h.steady (steady_modLink rfl) hs

theorem KeptByOps.restartIssue {s : State} (hs : P s) : P (restartIssue s) := by
  unfold Machine.restartIssue
  split
  · exact h.restart hs
  · exact hs

theorem KeptByOps.resetAssert (s : State) : P (resetAssert s) :=
  h.steady ((steady_modLink rfl).trans (steady_modPins _ _)) (h.reset s.pins.contact s.link.rate)

theorem KeptByOps.resetEnd (contact : BitVec 16) (rate : BitVec 2) {s : State} (hs : P s) :
    P (resetEnd contact rate s) := by
  unfold Machine.resetEnd
  split
  · exact hs
  · exact h.reset contact rate

/-! ### The service tick -/

theorem KeptByOps.drainSite (s : State) (i : Site) (hs : P s) : P (drainSite s i) :=
  h.settleExpiry i (h.supplyFaultTrip i (h.contactRise i (h.contactFall i hs)))

theorem KeptByOps.drainLane (s : State) (l : Lane) (hs : P s) : P (drainLane s l) := by
  have lapse := h.run (runOutcome_lockWindowLapse l _) (h.run (runOutcome_attachEnd l _) (h.calCounterExpiry l hs))
  exact h.holdExpiry l (h.run (runOutcome_budgetExpiry l _) (h.run (runOutcome_reductionEnd l _)
    (h.run (runOutcome_checkCaptureEnd l _) lapse)))

theorem KeptByOps.drain {s : State} (hs : P s) : P (drain s) := by
  simp only [Machine.drain]
  have quads := foldl_keeps P drainQuad (fun _ q => h.quietExpiry q) allQuads _
    (foldl_keeps P Machine.drainSite h.drainSite allSites s hs)
  have lanes := foldl_keeps P Machine.drainLane h.drainLane allLanes _ quads
  have link := h.restartBusyWindowEnd (h.gapExpiry lanes)
  have pairs := foldl_keeps P drainPairing (fun _ _ => h.lanePairing) allLanes _ link
  exact foldl_keeps P drainQuiet (fun _ l => h.quietTimeCalibration l) allLanes _ pairs

theorem KeptByOps.serviceTick (contact flt : BitVec 16) (order : Fin 24) {s : State} (hs : P s) :
    P (serviceTick contact flt order s) :=
  h.tick contact flt (h.steady (steady_sampleLines contact flt order _) (h.drain hs))

/-! ### Every command -/

/-- Every command keeps it. -/
theorem KeptByOps.exec (i : Instr) {s t : State} (hs : P s) (e : exec i s = .next t) : P t := by
  have taken {setup : Bool} {i : Instr} {act : State → Response × State} (ha : ∀ {s}, P s → P (act s).2)
      (e : Machine.taken setup i act s = .next t) : P t := by
    cases e
    exact h.request setup i ha hs
  have occurs {f : State → State} (hf : P s → P (f s)) (e : Machine.occurs f s = .next t) : P t := by
    cases e
    split
    · exact hf hs
    · exact hs
  cases i
  case badKindRequest => exact taken (fun hs => hs) e
  case receiveByte => cases e; exact h.receiveByte _ _ hs
  case gapExpiry => exact occurs h.gapExpiry e
  case replyComplete => exact occurs h.replyComplete e
  case restartIssue => exact occurs h.restartIssue e
  case restartBusyWindowEnd => exact occurs h.restartBusyWindowEnd e
  case resetAssert => cases e; exact h.resetAssert s
  case resetEnd => cases e; exact h.resetEnd _ _ hs
  case serviceTick => exact occurs (h.serviceTick _ _ _) e
  case contactRise => exact occurs (h.contactRise _) e
  case contactFall => exact occurs (h.contactFall _) e
  case supplyFaultTrip => exact occurs (h.supplyFaultTrip _) e
  case settleExpiry => exact occurs (h.settleExpiry _) e
  case quietExpiry => exact occurs (h.quietExpiry _) e
  case checkIntervalEnd => exact occurs (h.checkIntervalEnd _) e
  case calCounterExpiry => exact occurs (h.calCounterExpiry _) e
  case quietTimeCalibration => exact occurs (h.quietTimeCalibration _) e
  case calibrationComplete => exact occurs (h.calibrationComplete _ _ _) e
  case lanePairing => exact occurs h.lanePairing e
  case attachEnd => exact occurs (h.run (runOutcome_attachEnd _ _)) e
  case noSignalWindowEnd => exact occurs (h.run (runOutcome_noSignalWindowEnd _ _ _)) e
  case coarseFrequencyCheck => exact occurs (h.run (runOutcome_coarseFrequencyCheck _ _ _ _)) e
  case lockAcquired => exact occurs (h.run (runOutcome_lockAcquired _ _ _ _)) e
  case lockWindowEnd => exact occurs (h.run (runOutcome_lockWindowEnd _ _ _ _)) e
  case lossOfLock => exact occurs (h.run (runOutcome_lossOfLock _ _ _ _)) e
  case discardComplete => exact occurs (h.run (runOutcome_discardComplete _ _ _)) e
  case sampleComplete => exact occurs (h.run (runOutcome_sampleComplete _ _ _)) e
  case checkCaptureEnd => exact occurs (h.run (runOutcome_checkCaptureEnd _ _)) e
  case reductionEnd => exact occurs (h.run (runOutcome_reductionEnd _ _)) e
  case budgetExpiry => exact occurs (h.run (runOutcome_budgetExpiry _ _)) e
  case holdExpiry => exact occurs (h.holdExpiry _) e
  case siteMode a b c d f => exact taken (h.handle (.siteMode a b c d f)) e
  case powerOn a b => exact taken (h.handle (.powerOn a b)) e
  case powerOff a b => exact taken (h.handle (.powerOff a b)) e
  case clearSite a b => exact taken (h.handle (.clearSite a b)) e
  case querySites a => exact taken (h.handle (.querySites a)) e
  case queryTimebase a => exact taken (h.handle (.queryTimebase a)) e
  case queryLane a b => exact taken (h.handle (.queryLane a b)) e
  case recalibrate a b => exact taken (h.handle (.recalibrate a b)) e
  case laneModeEnable a b => exact taken (h.handle (.laneModeEnable a b)) e
  case laneModeDisable a b => exact taken (h.handle (.laneModeDisable a b)) e
  case writePlan a b c => exact taken (h.handle (.writePlan a b c)) e
  case erasePlan a b => exact taken (h.handle (.erasePlan a b)) e
  case readPlan a b => exact taken (h.handle (.readPlan a b)) e
  case writeLimits a b c => exact taken (h.handle (.writeLimits a b c)) e
  case eraseLimits a b => exact taken (h.handle (.eraseLimits a b)) e
  case readLimits a b => exact taken (h.handle (.readLimits a b)) e
  case protect a b c => exact taken (h.handle (.protect a b c)) e
  case measure a b c => exact taken (h.handle (.measure a b c)) e
  case screen a b c => exact taken (h.handle (.screen a b c)) e
  case checkPaths a b c => exact taken (h.handle (.checkPaths a b c)) e
  case cancel a b c => exact taken (h.handle (.cancel a b c)) e
  case pause a => exact taken (h.handle (.pause a)) e
  case resume a => exact taken (h.handle (.resume a)) e
  case queryQueue a => exact taken (h.handle (.queryQueue a)) e
  case snapshot a b => exact taken (h.handle (.snapshot a b)) e
  case readSnapshot a b => exact taken (h.handle (.readSnapshot a b)) e
  case readSamples a b c d f => exact taken (h.handle (.readSamples a b c d f)) e
  case nextBlock => exact taken (h.handle .nextBlock) e
  case releaseLane a b => exact taken (h.handle (.releaseLane a b)) e
  case takeCompletion a => exact taken (h.handle (.takeCompletion a)) e
  case readResult a b => exact taken (h.handle (.readResult a b)) e
  case freeResult a b => exact taken (h.handle (.freeResult a b)) e
  case queryPaths a b => exact taken (h.handle (.queryPaths a b)) e
  case setConfig a b c => exact taken (h.handle (.setConfig a b c)) e
  case getConfig a b => exact taken (h.handle (.getConfig a b)) e
  case readAlerts a => exact taken (h.handle (.readAlerts a)) e
  case restart a => exact taken (h.handle (.restart a)) e

/-- A property that the operations on the records keep is kept by every step. -/
theorem KeptByOps.kept : Kept P := by
  intro s t hs e
  unfold step at e
  split at e
  · cases e
    exact hs
  · exact h.exec _ (h.steady (steady_pending s _) hs) e

end

end Sys2Proof.Machine
end

section
/-!
SUPPORT. What an end and a giving back do to the sites: the notices of results, the detach and the release it may bring
(R8, R9, R16).
-/
namespace Sys2Proof.Machine

theorem site_modSite (s : State) (i : Site) (f : SiteRecord → SiteRecord) (k : Site) :
    (s.modSite i f).site k = if k = i then f (s.site k) else s.site k := by
  split
  · rename_i e; rw [e, site_modSite_self]
  · rename_i e; exact site_modSite_of_ne s f e

theorem lane_modLane (s : State) (l : Lane) (f : LaneContext → LaneContext) (m : Lane) :
    (s.modLane l f).lane m = if m = l then f (s.lane m) else s.lane m := by
  split
  · rename_i e; rw [e, lane_modLane_self]
  · rename_i e; exact lane_modLane_of_ne s f e

theorem site_of_sites {s t : State} (h : t.sites = s.sites) (k : Site) : t.site k = s.site k :=
  congrArg (fun v : Vector SiteRecord 16 => v[k]) h

/-! ### Deposit notices -/

/-- Every site keeps its record but for the notices of results. -/
def OnlyNotices (s t : State) : Prop :=
  ∀ i, t.site i = { s.site i with
    lastBin := (t.site i).lastBin, lastJobId := (t.site i).lastJobId, completed := (t.site i).completed }

theorem onlyNotices_of_sites {s t : State} (h : t.sites = s.sites) : OnlyNotices s t := fun i => by
  rw [site_of_sites h]

theorem OnlyNotices.trans {s t u : State} (h : OnlyNotices s t) (k : OnlyNotices t u) : OnlyNotices s u := fun i => by
  rw [k i, h i]

theorem onlyNotices_foldl {α : Type} (f : State → α → State) (hf : ∀ s a, OnlyNotices s (f s a)) (l : List α)
    (s : State) : OnlyNotices s (l.foldl f s) :=
  foldl_related OnlyNotices (fun _ => onlyNotices_of_sites rfl) (fun _ _ _ => .trans) f hf l s

theorem onlyNotices_deposit (j : Job) (d : Deposit) (s : State) : OnlyNotices s (deposit j d s) := by
  intro i
  simp only [deposit]
  cases j.work with
  | measure p =>
    simp only [site_modSite, site_modResults, site_setSlot]
    split <;> rfl
  | check l => rfl

theorem onlyNotices_endInList (code : TermCode) (s : State) (j : Job) : OnlyNotices s (endInList code s j) :=
  onlyNotices_deposit j _ (removeJob j.id s)

theorem onlyNotices_announce (i : Site) (s : State) : OnlyNotices s (announce i s) :=
  onlyNotices_foldl _ (onlyNotices_endInList _) _ s

theorem onlyNotices_endChecksOn (l : Lane) (s : State) : OnlyNotices s (endChecksOn l s) :=
  onlyNotices_foldl _ (onlyNotices_endInList _) _ s

/-! ### Before the detach -/

theorem sites_writeCheckedPath (j : Job) (e : EndReport) (s : State) : (writeCheckedPath j e s).sites = s.sites := by
  unfold writeCheckedPath
  split <;> rfl

theorem quiet_writeCheckedPath (j : Job) (e : EndReport) (s : State) : (writeCheckedPath j e s).quiet = s.quiet := by
  unfold writeCheckedPath
  split <;> rfl

theorem lanes_writeCheckedPath (j : Job) (e : EndReport) (s : State) : (writeCheckedPath j e s).lanes = s.lanes := by
  unfold writeCheckedPath
  split <;> rfl

theorem quiet_deposit (j : Job) (d : Deposit) (s : State) : (deposit j d s).quiet = s.quiet := by
  simp only [deposit]
  cases j.work <;> rfl

theorem lanes_deposit (j : Job) (d : Deposit) (s : State) : (deposit j d s).lanes = s.lanes := by
  simp only [deposit]
  cases j.work <;> rfl

theorem sites_setHold (l : Lane) (j : Job) (dest : LaneState) (s : State) : (setHold l j dest s).sites = s.sites := by
  unfold setHold
  split <;> rfl

theorem quiet_setHold (l : Lane) (j : Job) (dest : LaneState) (s : State) : (setHold l j dest s).quiet = s.quiet := by
  unfold setHold
  split <;> rfl

/-- A hold leaves every run as it is. -/
theorem run_setHold (l : Lane) (j : Job) (dest : LaneState) (s : State) (m : Lane) :
    ((setHold l j dest s).lane m).run = (s.lane m).run := by
  unfold setHold
  split
  · rw [lane_modLane]
    split <;> rfl
  · rfl

/-- What comes before the detach of an end: notices at the sites, the quiet countdowns and every run as they were. -/
structure BeforeDetach (s u : State) : Prop where
  notices : OnlyNotices s u
  quiet : u.quiet = s.quiet
  run : ∀ l, (u.lane l).run = (s.lane l).run
  rest : KeepsRest s u

theorem BeforeDetach.rfl {s : State} : BeforeDetach s s :=
  ⟨onlyNotices_of_sites (Eq.refl _), Eq.refl _, fun _ => Eq.refl _, .rfl⟩

/-- An end is a detach and a leaving, after what comes before the detach. -/
theorem endJob_detaches (l : Lane) (j : Job) (e : EndReport) (dest : LaneState) (s : State) :
    ∃ u, BeforeDetach s u ∧ endJob l j e dest s = leave l dest (detach l u) := by
  refine ⟨_, ⟨?_, ?_, fun m => ?_, ?_⟩, rfl⟩
  · have removed : OnlyNotices s (writeCheckedPath j e (removeJob j.id s)) :=
      onlyNotices_of_sites (sites_writeCheckedPath j e _)
    exact (removed.trans (onlyNotices_deposit j _ _)).trans (onlyNotices_of_sites (sites_setHold l j dest _))
  · rw [quiet_setHold, quiet_deposit, quiet_writeCheckedPath]
    rfl
  · rw [run_setHold]
    simp only [State.lane, lanes_deposit, lanes_writeCheckedPath]
    rfl
  · exact (keepsRest_removeJob j.id s).trans <| (keepsRest_writeCheckedPath j e _).trans <|
      (keepsRest_deposit j _ _).trans (keepsRest_setHold l j dest _)

theorem laneEnd_detaches (l : Lane) (e : EndReport) (dest : LaneState) (s : State) :
    ∃ u, BeforeDetach s u ∧ laneEnd l e dest s = leave l dest (detach l u) := by
  unfold laneEnd
  split
  · exact ⟨s, .rfl, rfl⟩
  · exact endJob_detaches l _ e dest s

theorem keepsRest_requeueEntry (cause : RequeueCause) (j : Job) (s : State) :
    KeepsRest s (requeueEntry cause j s) := ⟨rfl, rfl, rfl, rfl, rfl, rfl, rfl⟩

theorem giveBack_detaches (l : Lane) (cause : RequeueCause) (dest : LaneState) (s : State) :
    ∃ u, BeforeDetach s u ∧ giveBack l cause dest s = leave l dest (detach l u) := by
  unfold giveBack
  split
  · exact ⟨s, .rfl, rfl⟩
  · split
    · exact endJob_detaches l _ _ dest s
    · exact ⟨requeueEntry cause _ s, ⟨onlyNotices_of_sites rfl, rfl, fun _ => rfl, keepsRest_requeueEntry cause _ s⟩, rfl⟩

/-! ### The release (R8) -/

theorem quadAttached_iff {s : State} {q : Quad} :
    quadAttached s q = true ↔ ∃ k, quadOf k = q ∧ (s.site k).attachedLane.isSome = true := by
  simp [quadAttached, mem_quadSites]

theorem quadPending_iff {s : State} {q : Quad} :
    quadPending s q = true ↔ ∃ k, quadOf k = q ∧ (s.site k).state = .powerPending := by
  simp [quadPending, mem_quadSites]

/-- The sites that a release switches on. -/
def waiting (s : State) (q : Quad) : List Site := (quadSites q).filter fun i => (s.site i).state == .powerPending

theorem mem_waiting {s : State} {q : Quad} {k : Site} :
    k ∈ waiting s q ↔ quadOf k = q ∧ (s.site k).state = .powerPending := by
  simp [waiting, mem_quadSites]

theorem nodup_waiting (s : State) (q : Quad) : (waiting s q).Nodup := (nodup_quadSites q).filter _

/-- A release does nothing in an attached quad, or one that is not pending. -/
theorem release_of_not {s : State} {q : Quad} (h : quadAttached s q = true ∨ quadPending s q = false) :
    release q s = s := by
  rcases h with h | h <;> simp [release, h]

/-- A release switches the waiting sites of the quad on as one event. -/
theorem release_of {s : State} {q : Quad} (free : quadAttached s q = false) (pending : quadPending s q = true) :
    release q s = switchOn q (waiting s q) s := by
  simp [release, free, pending, waiting]

theorem detach_of_none {l : Lane} {s : State} (h : (s.lane l).run.site = none) : detach l s = s := by
  simp [detach, h]

theorem detach_of_some {l : Lane} {s : State} {i : Site} (h : (s.lane l).run.site = some i) :
    detach l s = release (quadOf i) (s.modSite i unattached) := by
  simp [detach, h]

theorem sites_leave (l : Lane) (dest : LaneState) (s : State) : (leave l dest s).sites = s.sites := rfl

/-! ### Reloads and switch-ons leave an attachment -/

@[simp] theorem state_reloadSettle (r : SiteRecord) : (reloadSettle r).state = r.state := by
  unfold reloadSettle
  split <;> rfl

@[simp] theorem attachedLane_reloadSettle (r : SiteRecord) : (reloadSettle r).attachedLane = r.attachedLane := by
  unfold reloadSettle
  split <;> rfl

@[simp] theorem attachedKind_reloadSettle (r : SiteRecord) : (reloadSettle r).attachedKind = r.attachedKind := by
  unfold reloadSettle
  split <;> rfl

@[simp] theorem attachedLane_switchedOn (r : SiteRecord) : (switchedOn r).attachedLane = r.attachedLane := rfl

theorem attachedLane_disturbQuad (q : Quad) (s : State) (k : Site) :
    ((disturbQuad q s).site k).attachedLane = (s.site k).attachedLane := by
  rw [site_disturbQuad]
  split
  · exact attachedLane_reloadSettle _
  · rfl

theorem attachedLane_switchOn {q : Quad} {sites : List Site} (once : sites.Nodup) (s : State) (k : Site) :
    ((switchOn q sites s).site k).attachedLane = (s.site k).attachedLane := by
  rw [site_switchOn once]
  split
  · rfl
  · split
    · exact attachedLane_reloadSettle _
    · rfl

theorem attachedLane_release (q : Quad) (s : State) (k : Site) :
    ((release q s).site k).attachedLane = (s.site k).attachedLane := by
  unfold release
  split
  · exact attachedLane_switchOn (nodup_waiting s q) s k
  · rfl

/-- Two states with the same attachments have the same attached quads. -/
theorem quadAttached_congr {s t : State} (h : ∀ k, (t.site k).attachedLane = (s.site k).attachedLane) (q : Quad) :
    quadAttached t q = quadAttached s q := by
  simp only [quadAttached, h]

end Sys2Proof.Machine
end

section
/-!
SUPPORT. The site table in form (R1, R2, R6): one predicate of a site record, the quads' pending claims, and what each
operation on sites does to them.
-/
namespace Sys2Proof.Machine

/-- VACANT has no contact; SEATED, POWER_PENDING, SETTLING and READY have it (R2). -/
def ContactFits (x : SiteState) (contact : Bool) : Prop :=
  match x with
  | .vacant => contact = false
  | .seated | .powerPending | .settling | .ready => contact = true
  | .disabled | .fault => True

/-- A site record in form: the supply and the contact fit the state, settle remaining is 0 outside SETTLING, and the
attachment's kind goes with its lane (R1, R2). -/
structure SiteFits (r : SiteRecord) : Prop where
  supply : r.supply = true ↔ r.state = .settling ∨ r.state = .ready
  settle : r.state ≠ .settling → r.settle = .idle
  attached : r.attachedLane.isSome = r.attachedKind.isSome
  contact : ContactFits r.state r.contact

/-- The four site invariants together. -/
structure SiteTable (s : State) : Prop where
  fits : ∀ i, SiteFits (s.site i)
  pending : PendingQuadIsAttached s

theorem siteTable_iff {s : State} :
    SiteTable s ↔ SupplyFollowsState s ∧ SiteFieldsAgree s ∧ ContactFitsState s ∧ PendingQuadIsAttached s :=
  ⟨fun h => ⟨fun i => (h.fits i).supply, fun i => ⟨(h.fits i).settle, (h.fits i).attached⟩,
      fun i => (h.fits i).contact, h.pending⟩,
    fun ⟨supply, fields, contact, pending⟩ =>
      ⟨fun i => ⟨supply i, (fields i).1, (fields i).2, contact i⟩, pending⟩⟩

/-- The records of `t` are in form, no attachment of `s` is lost, and a pending site of `t` was pending or stands in an
attached quad. -/
theorem SiteTable.of {s t : State} (h : PendingQuadIsAttached s) (fits : ∀ k, SiteFits (t.site k))
    (kept : ∀ k, (s.site k).attachedLane.isSome = true → (t.site k).attachedLane.isSome = true)
    (pend : ∀ k, (t.site k).state = .powerPending →
      (s.site k).state = .powerPending ∨ quadAttached s (quadOf k) = true) : SiteTable t := by
  refine ⟨fits, fun q hq => ?_⟩
  obtain ⟨k, rfl, hk⟩ := quadPending_iff.1 hq
  have attached : quadAttached s (quadOf k) = true := by
    rcases pend k hk with p | p
    · exact h _ (quadPending_iff.2 ⟨k, rfl, p⟩)
    · exact p
  obtain ⟨m, hm, am⟩ := quadAttached_iff.1 attached
  exact quadAttached_iff.2 ⟨m, hm, kept m am⟩

theorem SiteTable.modSite {s : State} (h : SiteTable s) {i : Site} {f : SiteRecord → SiteRecord}
    (fits : SiteFits (f (s.site i))) (same : (f (s.site i)).attachedLane = (s.site i).attachedLane)
    (pend : (f (s.site i)).state = .powerPending →
      (s.site i).state = .powerPending ∨ quadAttached s (quadOf i) = true) : SiteTable (s.modSite i f) := by
  refine .of h.pending (fun k => ?_) (fun k hk => ?_) (fun k hk => ?_)
  all_goals
    by_cases e : k = i
    · subst e
      simp only [site_modSite_self] at *
      first | exact fits | rwa [same] | exact pend hk
    · simp only [site_modSite_of_ne s f e] at *
      first | exact h.fits k | exact hk | exact .inl hk

/-- A change that leaves a site's form fields leaves its form. -/
theorem SiteFits.of_same {r x : SiteRecord} (h : SiteFits r) (state : x.state = r.state)
    (contact : x.contact = r.contact) (supply : x.supply = r.supply) (settle : x.settle = r.settle)
    (lane : x.attachedLane = r.attachedLane) (kind : x.attachedKind = r.attachedKind) : SiteFits x :=
  ⟨by rw [supply, state]; exact h.supply, by rw [settle, state]; exact h.settle,
    by rw [lane, kind]; exact h.attached, by rw [state, contact]; exact h.contact⟩

/-- A change of other fields of the sites keeps the table. -/
theorem SiteTable.of_same {s t : State} (h : SiteTable s) (same : ∀ k,
    (t.site k).state = (s.site k).state ∧ (t.site k).contact = (s.site k).contact
      ∧ (t.site k).supply = (s.site k).supply ∧ (t.site k).settle = (s.site k).settle
      ∧ (t.site k).attachedLane = (s.site k).attachedLane ∧ (t.site k).attachedKind = (s.site k).attachedKind) :
    SiteTable t := by
  refine .of h.pending (fun k => ?_) (fun k hk => ?_) (fun k hk => ?_) <;>
    obtain ⟨state, contact, supply, settle, lane, kind⟩ := same k
  · exact (h.fits k).of_same state contact supply settle lane kind
  · rwa [lane]
  · exact .inl (state ▸ hk)

theorem SiteTable.of_notices {s t : State} (h : SiteTable s) (n : OnlyNotices s t) : SiteTable t :=
  h.of_same fun k => by rw [n k]; exact ⟨rfl, rfl, rfl, rfl, rfl, rfl⟩

theorem SiteTable.of_sites {s t : State} (h : SiteTable s) (e : t.sites = s.sites) : SiteTable t :=
  h.of_notices (onlyNotices_of_sites e)

/-! ### Reloads, switch-ons and the release -/

theorem SiteFits.reloadSettle {r : SiteRecord} (h : SiteFits r) : SiteFits (reloadSettle r) := by
  unfold Machine.reloadSettle
  split
  · rename_i e
    exact ⟨h.supply, fun ne => absurd e ne, h.attached, h.contact⟩
  · exact h

/-- A site with its contact goes to SETTLING in form. -/
theorem SiteFits.switchedOn {r : SiteRecord} (h : SiteFits r) (contact : r.contact = true) : SiteFits (switchedOn r) :=
  ⟨by simp [Machine.switchedOn], fun ne => absurd rfl ne, h.attached, contact⟩

theorem SiteFits.contact_of_pending {r : SiteRecord} (h : SiteFits r) (e : r.state = .powerPending) :
    r.contact = true := by
  simpa only [ContactFits, e] using h.contact

theorem SiteFits.contact_of_seated {r : SiteRecord} (h : SiteFits r) (e : r.state = .seated) : r.contact = true := by
  simpa only [ContactFits, e] using h.contact

theorem SiteTable.disturbQuad {s : State} (h : SiteTable s) (q : Quad) : SiteTable (disturbQuad q s) := by
  refine .of h.pending (fun k => ?_) (fun k hk => ?_) (fun k hk => ?_)
  · rw [site_disturbQuad]
    split
    · exact (h.fits k).reloadSettle
    · exact h.fits k
  · rwa [attachedLane_disturbQuad]
  · rw [site_disturbQuad] at hk
    refine .inl ?_
    split at hk
    · rwa [state_reloadSettle] at hk
    · exact hk

/-- Records in form stay so at a switch-on of sites with contact. -/
theorem fits_switchOn {s : State} (fits : ∀ k, SiteFits (s.site k)) (q : Quad) {sites : List Site} (once : sites.Nodup)
    (contact : ∀ k ∈ sites, (s.site k).contact = true) (k : Site) : SiteFits ((switchOn q sites s).site k) := by
  rw [site_switchOn once]
  split
  · rename_i e
    exact (fits k).switchedOn (contact k e)
  · split
    · exact (fits k).reloadSettle
    · exact fits k

/-- A site that is pending after a switch-on was pending before, and not switched on. -/
theorem pending_switchOn {s : State} {q : Quad} {sites : List Site} (once : sites.Nodup) {k : Site}
    (h : ((switchOn q sites s).site k).state = .powerPending) : (s.site k).state = .powerPending ∧ k ∉ sites := by
  rw [site_switchOn once] at h
  split at h
  · cases h
  · rename_i e
    refine ⟨?_, e⟩
    split at h
    · rwa [state_reloadSettle] at h
    · exact h

/-- Clearing an attachment with the release that follows keeps the table (R8, R9). -/
theorem SiteTable.release_unattached {s : State} (h : SiteTable s) (i : Site) :
    SiteTable (release (quadOf i) (s.modSite i unattached)) := by
  have fits (k : Site) : SiteFits ((s.modSite i unattached).site k) := by
    rw [site_modSite]
    split
    · exact ⟨(h.fits k).supply, (h.fits k).settle, rfl, (h.fits k).contact⟩
    · exact h.fits k
  have state (k : Site) : ((s.modSite i unattached).site k).state = (s.site k).state := by
    rw [site_modSite]
    split <;> rfl
  have elsewhere (q : Quad) (ne : q ≠ quadOf i) (hq : quadPending (s.modSite i unattached) q = true) :
      quadAttached (s.modSite i unattached) q = true := by
    obtain ⟨k, e, hk⟩ := quadPending_iff.1 hq
    obtain ⟨m, hm, am⟩ := quadAttached_iff.1 (h.pending q (quadPending_iff.2 ⟨k, e, (state k) ▸ hk⟩))
    refine quadAttached_iff.2 ⟨m, hm, ?_⟩
    rwa [site_modSite_of_ne s _ fun e => ne (by rw [← hm, e])]
  by_cases c : quadAttached (s.modSite i unattached) (quadOf i) = true
      ∨ quadPending (s.modSite i unattached) (quadOf i) = false
  · rw [release_of_not c]
    refine ⟨fits, fun q hq => ?_⟩
    by_cases e : q = quadOf i
    · subst e
      exact c.resolve_right (by simp [hq])
    · exact elsewhere q e hq
  · simp only [not_or, Bool.not_eq_true, Bool.not_eq_false] at c
    rw [release_of c.1 c.2]
    have once := nodup_waiting (s.modSite i unattached) (quadOf i)
    refine ⟨fits_switchOn fits _ once fun k hk => (fits k).contact_of_pending (mem_waiting.1 hk).2, fun q hq => ?_⟩
    obtain ⟨k, e, hk⟩ := quadPending_iff.1 hq
    obtain ⟨was, out⟩ := pending_switchOn once hk
    rw [quadAttached_congr (attachedLane_switchOn once _)]
    refine elsewhere q (fun e' => ?_) (quadPending_iff.2 ⟨k, e, was⟩)
    exact out (mem_waiting.2 ⟨e.trans e', was⟩)

theorem SiteTable.detach {s : State} (h : SiteTable s) (l : Lane) : SiteTable (detach l s) := by
  unfold Machine.detach
  split
  · exact h
  · exact h.release_unattached _

/-- What ends in a detach keeps the table. -/
theorem SiteTable.detached {s u : State} (h : SiteTable s) (b : BeforeDetach s u) (l : Lane) (dest : LaneState) :
    SiteTable (leave l dest (Machine.detach l u)) :=
  ((h.of_notices b.notices).detach l).of_sites (sites_leave l dest _)

theorem keptByEnds_siteTable : KeptByEnds SiteTable where
  steady k h := h.of_sites k.sites
  laneEnd l e dest _ h := by
    obtain ⟨u, b, e⟩ := laneEnd_detaches l e dest _
    exact e ▸ h.detached b l dest
  giveBack l cause dest _ h := by
    obtain ⟨u, b, e⟩ := giveBack_detaches l cause dest _
    exact e ▸ h.detached b l dest
  announce i h := h.of_notices (onlyNotices_announce i _)
  endChecksOn l h := h.of_notices (onlyNotices_endChecksOn l _)
  disturbQuad q h := h.disturbQuad q

end Sys2Proof.Machine
end

section
/-!
SUPPORT. The site table is kept by every step (R1, R2, R6): the events and requests of the sites, RESTART, reset and the
service tick.
-/
namespace Sys2Proof.Machine

/-! ### Switch-offs and announcements -/

/-- A record switched off into a state that fits its contact is in form. -/
theorem SiteFits.switchedOff {r : SiteRecord} (h : SiteFits r) {dest : SiteState}
    (off : dest ≠ .settling ∧ dest ≠ .ready)
    (contact : ContactFits dest r.contact) : SiteFits (switchedOff dest r) :=
  ⟨by simp [Machine.switchedOff, off], fun _ => rfl, h.attached, contact⟩

/-- An unpowered record that goes to an unpowered state which fits its contact stays in form. -/
theorem SiteFits.moved {r x : SiteRecord} (h : SiteFits r) (off : r.state ≠ .settling ∧ r.state ≠ .ready)
    (off' : x.state ≠ .settling ∧ x.state ≠ .ready) (supply : x.supply = r.supply) (settle : x.settle = r.settle)
    (lane : x.attachedLane = r.attachedLane) (kind : x.attachedKind = r.attachedKind)
    (contact : ContactFits x.state x.contact) : SiteFits x := by
  refine ⟨?_, fun _ => ?_, ?_, contact⟩
  · rw [supply, h.supply]
    simp [off, off']
  · rw [settle, h.settle off.1]
  · rw [lane, kind, h.attached]

theorem SiteTable.announce {s : State} (h : SiteTable s) (i : Site) : SiteTable (announce i s) :=
  h.of_notices (onlyNotices_announce i s)

/-- A site moves to an unpowered state that fits its contact; the entry is announced where R15 says. -/
theorem SiteTable.enterSite {s : State} (h : SiteTable s) {i : Site} {x : SiteState}
    (off : (s.site i).state ≠ .settling ∧ (s.site i).state ≠ .ready)
    (off' : x ≠ .settling ∧ x ≠ .ready ∧ x ≠ .powerPending)
    (contact : ContactFits x (s.site i).contact) : SiteTable (enterSite i x s) := by
  have moved : SiteTable (s.modSite i fun r => { r with state := x }) :=
    h.modSite ((h.fits i).moved off ⟨off'.1, off'.2.1⟩ rfl rfl rfl rfl contact) rfl
      fun e => absurd e off'.2.2
  simp only [Machine.enterSite]
  split
  · exact moved.announce i
  · exact moved

theorem restingState_fits (contact : Bool) :
    restingState contact ≠ .settling ∧ restingState contact ≠ .ready ∧ restingState contact ≠ .powerPending
      ∧ ContactFits (restingState contact) contact := by
  cases contact <;> simp [restingState, ContactFits]

theorem contactFits_vacant : ContactFits .vacant false := rfl

/-! ### Contact (R4, R5) -/

/-- Seating sites that owe an autopower claim gives each its contact and keeps the rest. -/
theorem site_foldl_seat {sites : List Site} (once : sites.Nodup) (s : State) (k : Site) :
    (sites.foldl seat s).site k =
      if k ∈ sites then { takeContact true (s.site k) with state := .seated } else s.site k :=
  site_foldl_modSite (fun r => { takeContact true r with state := .seated }) once s k

/-- A VACANT record takes its rise in form. -/
theorem SiteFits.seat {r : SiteRecord} (h : SiteFits r) (e : r.state = .vacant) :
    SiteFits { takeContact true r with state := .seated } :=
  h.moved (by simp [e]) (by simp) rfl rfl rfl rfl rfl

theorem SiteTable.seat {s : State} (h : SiteTable s) {i : Site} (e : (s.site i).state = .vacant) :
    SiteTable (seat s i) :=
  h.modSite ((h.fits i).seat e) rfl (by simp)

/-- A contact taken in a state that it fits. -/
theorem SiteTable.takeContact {s : State} (h : SiteTable s) {i : Site} (level : Bool)
    (fits : ContactFits (s.site i).state level) : SiteTable (s.modSite i (takeContact level)) :=
  h.modSite ⟨(h.fits i).supply, (h.fits i).settle, (h.fits i).attached, fits⟩ rfl .inl

/-- A power-on claim of SEATED sites keeps the table (R6, R7). -/
theorem SiteTable.claimTogether {s : State} (h : SiteTable s) {q : Quad} {sites : List Site} (once : sites.Nodup)
    (quad : ∀ k ∈ sites, quadOf k = q) (seated : ∀ k ∈ sites, (s.site k).state = .seated) :
    SiteTable (claimTogether q sites s) := by
  have contact k (m : k ∈ sites) : (s.site k).contact = true := (h.fits k).contact_of_seated (seated k m)
  unfold Machine.claimTogether
  split
  · rename_i attached
    refine .of h.pending (fun k => ?_) (fun k hk => ?_) (fun k hk => ?_)
    · rw [site_foldl_modSite _ once]
      split
      · rename_i m
        exact (h.fits k).moved (by simp [seated k m]) (by simp) rfl rfl rfl rfl (contact k m)
      · exact h.fits k
    · rw [site_foldl_modSite _ once]
      split <;> exact hk
    · rw [site_foldl_modSite _ once] at hk
      split at hk
      · rename_i m
        exact .inr (by rwa [quad k m])
      · exact .inl hk
  · refine .of h.pending (fits_switchOn h.fits q once contact) (fun k hk => ?_) (fun k hk => ?_)
    · rwa [attachedLane_switchOn once]
    · exact .inl (pending_switchOn once hk).1

theorem SiteTable.contactRise {s : State} (h : SiteTable s) (i : Site) : SiteTable (contactRise i s) := by
  simp only [Machine.contactRise]
  split
  · rename_i owed
    simp only [Bool.and_eq_true, Bool.not_eq_true'] at owed
    split
    · rename_i vacant
      split
      · rename_i auto
        have claims (k : Site) (m : k ∈ risesWith i s) : quadOf k = quadOf i ∧ (s.site k).state = .vacant := by
          unfold risesWith at m
          split at m
          · rw [List.mem_singleton.1 m]
            exact ⟨rfl, vacant⟩
          · obtain ⟨q, owes⟩ := mem_owedClaims.1 m
            simp only [owesClaim, Bool.and_eq_true, beq_iff_eq] at owes
            exact ⟨q, owes.1.2⟩
        have once : (risesWith i s).Nodup := by
          unfold risesWith
          split
          · exact List.nodup_singleton i
          · exact nodup_owedClaims s _
        have seats : SiteTable ((risesWith i s).foldl Machine.seat s) := by
          refine .of h.pending (fun k => ?_) (fun k hk => ?_) (fun k hk => ?_)
          · rw [site_foldl_seat once]
            split
            · rename_i m
              exact (h.fits k).seat (claims k m).2
            · exact h.fits k
          · rw [site_foldl_seat once]
            split <;> exact hk
          · rw [site_foldl_seat once] at hk
            split at hk
            · cases hk
            · exact .inl hk
        refine seats.claimTogether once (fun k m => (claims k m).1) fun k m => ?_
        rw [site_foldl_seat once, if_pos m]
      · exact h.seat vacant
    · rename_i notVacant
      refine h.takeContact true ?_
      revert notVacant
      cases (s.site i).state <;> simp [ContactFits]
  · exact h

theorem SiteTable.switchOff {s : State} (h : SiteTable s) {i : Site} {f : SiteRecord → SiteRecord} {dest : SiteState}
    (cause : SwitchCause) (off : dest ≠ .settling ∧ dest ≠ .ready ∧ dest ≠ .powerPending)
    (f_lane : (f (s.site i)).attachedLane = (s.site i).attachedLane)
    (f_kind : (f (s.site i)).attachedKind = (s.site i).attachedKind)
    (contact : ContactFits dest (f (s.site i)).contact) : SiteTable (switchOff i dest cause (s.modSite i f)) := by
  have twice : (s.modSite i f).modSite i (switchedOff dest) = s.modSite i fun r => switchedOff dest (f r) := by
    simp [State.modSite]
  rw [Machine.switchOff, twice]
  refine keptByEnds_siteTable.quadEvent _ _ cause (h.modSite ?_ f_lane fun e => absurd e off.2.2)
  refine ⟨by simp [switchedOff, off], fun _ => rfl, ?_, contact⟩
  simpa [switchedOff, f_lane, f_kind] using (h.fits i).attached

theorem SiteTable.contactFall {s : State} (h : SiteTable s) (i : Site) : SiteTable (contactFall i s) := by
  simp only [Machine.contactFall]
  split
  · rename_i owed
    simp only [Bool.and_eq_true] at owed
    have away (e : (s.site i).state = .seated ∨ (s.site i).state = .powerPending ∨ (s.site i).state = .fault) :
        SiteTable (Machine.announce i ((s.modSite i (Machine.takeContact false)).modSite i
          fun r => { r with state := .vacant })) := by
      have twice : (s.modSite i (Machine.takeContact false)).modSite i (fun r => { r with state := .vacant })
          = s.modSite i fun r => { Machine.takeContact false r with state := .vacant } := by simp [State.modSite]
      rw [twice]
      refine SiteTable.announce (h.modSite ((h.fits i).moved ?_ (by simp) rfl rfl rfl rfl contactFits_vacant) rfl (by simp)) i
      rcases e with e | e | e <;> simp [e]
    have off : SiteTable (Machine.announce i (Machine.switchOff i .vacant .contactFall
        (s.modSite i (Machine.takeContact false)))) :=
      SiteTable.announce (h.switchOff .contactFall (by simp) rfl rfl contactFits_vacant) i
    split
    case h_1 e => exact h.takeContact false (by rw [e]; trivial)
    case h_2 e => exact h.takeContact false (e.symm ▸ contactFits_vacant)
    case h_3 e => exact away (.inl e)
    case h_4 e => exact away (.inr (.inl e))
    case h_5 e => exact away (.inr (.inr e))
    case h_6 e => exact off
    case h_7 e => exact off
  · exact h

theorem SiteTable.supplyFaultTrip {s : State} (h : SiteTable s) (i : Site) : SiteTable (supplyFaultTrip i s) := by
  simp only [Machine.supplyFaultTrip]
  split
  · have off := h.switchOff (i := i) (f := fun r => { r with faults := min 255 (r.faults + 1) }) .faultTrip
      (dest := .fault) (by simp) rfl rfl trivial
    exact SiteTable.announce (keptByEnds_siteTable.steady (steady_onlyLink (onlyLink_raiseSupplyFault i _) rfl) off) i
  · exact h

theorem SiteTable.settleExpiry {s : State} (h : SiteTable s) (i : Site) : SiteTable (settleExpiry i s) := by
  simp only [Machine.settleExpiry]
  split
  · rename_i c
    have contact : (s.site i).contact = true := by simpa only [ContactFits, c.1] using (h.fits i).contact
    have supply : (s.site i).supply = true := (h.fits i).supply.2 (.inl c.1)
    exact h.modSite ⟨by simp [supply], fun _ => rfl, (h.fits i).attached, contact⟩ rfl (by simp)
  · exact h

/-! ### Requests (R17 to R20) -/

theorem SiteTable.siteMode {s : State} (h : SiteTable s) (i : Site) (e a : Option Bool) (t : Option Nat) :
    SiteTable (applySiteMode i e a t s).2 := by
  unfold applySiteMode
  split
  · exact h
  · rename_i admitted
    have enabled : SiteTable (setEnable i e s) := by
      simp only [setEnable]
      split
      · exact h
      · split
        · rename_i disabled
          obtain ⟨h1, h2, h3, fits⟩ := restingState_fits (s.site i).contact
          exact h.enterSite (by simp [disabled]) ⟨h1, h2, h3⟩ fits
        · exact h
      · split
        · exact h
        · have free : mayDisable (s.site i) = true := by simpa using admitted
          refine h.enterSite ?_ (by simp) trivial
          constructor <;> intro e <;> simp [mayDisable, e] at free
    exact enabled.of_same fun k => by
      simp only [site_modSite]
      split <;> exact ⟨rfl, rfl, rfl, rfl, rfl, rfl⟩

theorem SiteTable.withdraw {s : State} (h : SiteTable s) {i : Site} (e : (s.site i).state = .powerPending) :
    SiteTable (s.modSite i fun r => { r with state := .seated }) :=
  h.modSite ((h.fits i).moved (by simp [e]) (by simp) rfl rfl rfl rfl ((h.fits i).contact_of_pending e)) rfl (by simp)

theorem SiteTable.clear {s : State} (h : SiteTable s) {i : Site} (e : (s.site i).state = .fault) :
    SiteTable (Machine.enterSite i (restingState (s.site i).contact) s) := by
  obtain ⟨h1, h2, h3, fits⟩ := restingState_fits (s.site i).contact
  exact h.enterSite (by simp [e]) ⟨h1, h2, h3⟩ fits

theorem SiteTable.powerOff {s : State} (h : SiteTable s) {i : Site}
    (e : (s.site i).state = .settling ∨ (s.site i).state = .ready) :
    SiteTable (Machine.switchOff i .seated .powerOff s) := by
  have contact : (s.site i).contact = true := by
    rcases e with e | e <;> simpa only [ContactFits, e] using (h.fits i).contact
  have same : s.modSite i id = s := by simp [State.modSite]
  have off := h.switchOff (i := i) (f := id) (dest := .seated) .powerOff (by simp) rfl rfl contact
  rwa [same] at off

/-! ### Pairing, RESTART, reset and the tick -/

/-- The job and the lane that the arbiter pairs: a listed job that may start on the lane (R69, R70). -/
theorem nextPair_mayStart {s : State} {j : Job} {l : Lane} (h : nextPair s = some (j, l)) :
    j ∈ s.jobs ∧ mayStart s j l = true := by
  obtain ⟨x, hx, e⟩ := List.exists_of_findSome?_eq_some h
  obtain ⟨m, hm, e⟩ := Option.map_eq_some_iff.1 e
  cases e
  have best (lanes : List Lane) (b : Option Lane) :
      ∀ m, lanes.foldl (betterLane s j.site) b = some m → b = some m ∨ m ∈ lanes := by
    induction lanes generalizing b with
    | nil => exact fun m e => .inl e
    | cons x rest ih =>
      intro m e
      rcases ih _ m e with e | e
      · unfold betterLane at e
        split at e
        · exact .inr (by simp [Option.some.inj e])
        · split at e
          · exact .inr (by simp [Option.some.inj e])
          · exact .inl e
      · exact .inr (List.mem_cons_of_mem _ e)
  rcases best _ _ l hm with e | e
  · cases e
  · exact ⟨hx, (List.mem_filter.1 e).2⟩

theorem SiteTable.pair {s : State} (h : SiteTable s) (j : Job) (l : Lane) : SiteTable (pair j l s) := by
  have site (k : Site) : (Machine.pair j l s).site k = if k = j.site then
      { s.site k with attachedLane := some l, attachedKind := some j.work.kind } else s.site k := by
    simp only [Machine.pair, site_modLink, site_modLane, site_modSite, site_setJobs]
  refine .of h.pending (fun k => ?_) (fun k hk => ?_) (fun k hk => ?_)
  · rw [site]
    split
    · exact ⟨(h.fits k).supply, (h.fits k).settle, rfl, (h.fits k).contact⟩
    · exact h.fits k
  · rw [site]
    split
    · rfl
    · exact hk
  · rw [site] at hk
    refine .inl ?_
    split at hk <;> exact hk

/-- No site is POWER_PENDING after RESTART, and every record is in form (R24). -/
theorem SiteFits.restartSite {r : SiteRecord} (h : SiteFits r) :
    SiteFits (restartSite r) ∧ (restartSite r).state ≠ .powerPending := by
  have off (e : r.state ≠ .settling ∧ r.state ≠ .ready) : SiteFits (unattached r) :=
    ⟨h.supply, h.settle, rfl, h.contact⟩
  have on : SiteFits (Machine.switchedOff (if r.contact then .seated else .vacant) (unattached r)) := by
    refine ⟨?_, fun _ => rfl, rfl, ?_⟩
    all_goals cases c : r.contact <;> simp [Machine.switchedOff, unattached, ContactFits, c]
  simp only [Machine.restartSite]
  split
  case h_4 e | h_5 e | h_6 e | h_7 e => exact ⟨off (by simp [e]), by simp [unattached, e]⟩
  all_goals exact ⟨on, by cases r.contact <;> simp [Machine.switchedOff]⟩

/-- A table without a pending site is in form when its records are. -/
theorem siteTable_of_none {s : State} (fits : ∀ k, SiteFits (s.site k)) (none : ∀ k, (s.site k).state ≠ .powerPending) :
    SiteTable s := by
  refine ⟨fits, fun q hq => ?_⟩
  obtain ⟨k, -, hk⟩ := quadPending_iff.1 hq
  exact absurd hk (none k)

theorem site_issueRestart (s : State) (k : Site) : (issueRestart s).site k = restartSite (s.site k) := by
  simp [issueRestart, raiseAlert, restartSites]

theorem SiteTable.restart {s : State} (h : SiteTable s) : SiteTable (issueRestart s) :=
  siteTable_of_none (fun k => by rw [site_issueRestart]; exact (h.fits k).restartSite.1)
    fun k => by rw [site_issueRestart]; exact (h.fits k).restartSite.2

theorem site_resetTo (contact : BitVec 16) (rate : BitVec 2) (s : State) (k : Site) :
    (resetTo contact rate s).site k = SiteRecord.atReset (contact.getLsbD k.val) := by
  simp [resetTo, State.atReset, State.site]

theorem fits_atReset (contact : Bool) :
    SiteFits (SiteRecord.atReset contact) ∧ (SiteRecord.atReset contact).state ≠ .powerPending := by
  cases contact
  · exact ⟨⟨by decide, fun _ => rfl, rfl, rfl⟩, by decide⟩
  · exact ⟨⟨by decide, fun _ => rfl, rfl, rfl⟩, by decide⟩

theorem siteTable_resetTo (contact : BitVec 16) (rate : BitVec 2) (s : State) : SiteTable (resetTo contact rate s) :=
  siteTable_of_none (fun k => by rw [site_resetTo]; exact (fits_atReset _).1)
    fun k => by rw [site_resetTo]; exact (fits_atReset _).2

theorem site_tickAll (contact flt : BitVec 16) (s : State) (k : Site) :
    (tickAll contact flt s).site k
      = tickSite s.settings.debounce (contact.getLsbD k.val) (flt.getLsbD k.val) (s.site k) := by
  simp [tickAll]

/-- A tick leaves the fields of a site record but its run, its marks and its settle countdown. -/
theorem tickSite_eq (debounce : Nat) (raw flt : Bool) (r : SiteRecord) :
    tickSite debounce raw flt r = { r with
      run := if raw = r.contact then 0 else r.run + 1
      changeDue := if raw = r.contact then false else decide (debounce ≤ r.run + 1)
      settle := r.settle.tick
      tripDue := r.supply && flt } := by
  simp only [tickSite, sampleContact]
  split <;> rfl

theorem SiteTable.tick {s : State} (h : SiteTable s) (contact flt : BitVec 16) : SiteTable (tickAll contact flt s) := by
  refine .of h.pending (fun k => ?_) (fun k hk => ?_) (fun k hk => ?_)
  · rw [site_tickAll, tickSite_eq]
    refine ⟨(h.fits k).supply, fun e => ?_, (h.fits k).attached, (h.fits k).contact⟩
    show (s.site k).settle.tick = .idle
    rw [(h.fits k).settle e]
    rfl
  · rwa [site_tickAll, tickSite_eq]
  · rw [site_tickAll, tickSite_eq] at hk
    exact .inl hk

/-! ### Cancel, and the rest of the operations -/

theorem SiteTable.endJob {s : State} (h : SiteTable s) (l : Lane) (j : Job) (e : EndReport) (dest : LaneState) :
    SiteTable (endJob l j e dest s) := by
  obtain ⟨u, b, e⟩ := endJob_detaches l j e dest s
  exact e ▸ h.detached b l dest

theorem SiteTable.cancelJob {s : State} (h : SiteTable s) (j : Job) : SiteTable (cancelJob s j) := by
  unfold Machine.cancelJob
  split
  · exact h.of_notices (onlyNotices_endInList _ s j)
  · exact h.endJob _ j _ _

theorem sites_appendJobs (batch : Option Nat) (news : List NewJob) (s : State) :
    (appendJobs batch news s).sites = s.sites := by
  refine foldl_related (fun s t => t.sites = s.sites) (fun _ => rfl) (fun _ _ _ h k => k.trans h) _ (fun s n => ?_) news s
  unfold appendJob
  split <;> rfl

theorem keptByOps_siteTable : KeptByOps SiteTable where
  toKeptByEnds := keptByEnds_siteTable
  contactRise i h := h.contactRise i
  contactFall i h := h.contactFall i
  supplyFaultTrip i h := h.supplyFaultTrip i
  settleExpiry i h := h.settleExpiry i
  siteMode i e a t h := h.siteMode i e a t
  claim i seated h := h.claimTogether (List.nodup_singleton i) (by simp) (by simpa using seated)
  powerOff _ e h := h.powerOff e
  withdraw _ e h := h.withdraw e
  clear i e h := h.clear e
  pairing {_ j l} _ h := h.pair j l
  append batch news _ _ _ h := h.of_sites (sites_appendJobs batch news _)
  cancel x h := foldl_keeps SiteTable _ (fun _ j h => h.cancelJob j) _ _ h
  takeHead _ _ _ _ _ h := h.of_sites rfl
  freeSlot _ _ _ h := h.of_sites rfl
  setPlan _ _ _ h := h.of_sites rfl
  setLimits _ _ _ h := h.of_sites rfl
  boundary _ h := h.of_sites rfl
  setting _ _ _ _ h := h.of_sites rfl
  restart h := h.restart
  reset contact rate := siteTable_resetTo contact rate _
  tick contact flt h := h.tick contact flt

/-- Settles O54: the four site invariants are one predicate, and every operation on the records keeps it. -/
theorem siteTableKept : Obligations.SiteTableKept := by
  unfold Obligations.SiteTableKept
  simp only [← siteTable_iff]
  exact keptByOps_siteTable.kept

end Sys2Proof.Machine
end

section
/-!
SUPPORT. What deposits, ends in the list, ends on a lane and requeues do to the job list, the slots, the lanes and the
attachments (R9, R61, R72 to R76, R94, R126).
-/
namespace Sys2Proof.Machine

/-! ### Removing an entry -/

/-- The entry that a search finds stands at the head of the rest, up to order. -/
theorem perm_cons_eraseP {α : Type} {p : α → Bool} {a : α} {l : List α} (h : l.find? p = some a) :
    l.Perm (a :: l.eraseP p) := by
  induction l with
  | nil => cases h
  | cons x rest ih =>
    by_cases e : p x = true
    · rw [List.find?_cons_of_pos e] at h
      cases h
      rw [List.eraseP_cons_of_pos e]
    · rw [List.find?_cons_of_neg e] at h
      rw [List.eraseP_cons_of_neg e]
      exact ((ih h).cons x).trans (.swap a x _)

/-- Where the ids differ, removing the entry of an id keeps all others. -/
theorem eraseP_id_eq_filter {l : List Job} (once : (l.map (·.id)).Nodup) (id : Nat) :
    l.eraseP (fun j => j.id == id) = l.filter fun j => j.id != id := by
  induction l with
  | nil => rfl
  | cons x rest ih =>
    rw [List.map_cons, List.nodup_cons] at once
    by_cases e : x.id = id
    · have others : rest.filter (fun j => j.id != id) = rest := by
        refine List.filter_eq_self.2 fun y hy => ?_
        have ne : y.id ≠ id := fun e' => once.1 (List.mem_map.2 ⟨y, hy, e'.trans e.symm⟩)
        simpa using ne
      rw [List.eraseP_cons_of_pos (by simpa using e), List.filter_cons_of_neg (by simpa using e), others]
    · rw [List.eraseP_cons_of_neg (by simpa using e), List.filter_cons_of_pos (by simpa using e), ih once.2]

/-- Two listed jobs of one id are one. -/
theorem job_unique {l : List Job} (once : (l.map (·.id)).Nodup) {a b : Job} (ha : a ∈ l) (hb : b ∈ l)
    (e : a.id = b.id) : a = b := List.inj_on_of_nodup_map once ha hb e

/-- A listed job is the one that its id finds. -/
theorem findJob_of_mem {s : State} (once : (s.jobs.map (·.id)).Nodup) {j : Job} (h : j ∈ s.jobs) :
    s.findJob j.id = some j := by
  have some : (s.findJob j.id).isSome = true := by
    rw [State.findJob, List.find?_isSome]
    exact ⟨j, h, by simp⟩
  obtain ⟨x, e⟩ := Option.isSome_iff_exists.1 some
  rw [e, job_unique once (List.mem_of_find?_eq_some e) h (by simpa using List.find?_some e)]

/-- The job that a lane runs is listed, under the id that the lane names. -/
theorem laneJob_eq_some {s : State} {l : Lane} {j : Job} (h : laneJob s l = some j) :
    (s.lane l).run.jobId = some j.id ∧ s.findJob j.id = some j ∧ j ∈ s.jobs := by
  obtain ⟨id, e, f⟩ := Option.bind_eq_some_iff.1 h
  have same : j.id = id := by simpa using List.find?_some f
  subst same
  exact ⟨e, f, List.mem_of_find?_eq_some f⟩

theorem laneJob_of {s : State} {l : Lane} {j : Job} (once : (s.jobs.map (·.id)).Nodup) (h : j ∈ s.jobs)
    (e : (s.lane l).run.jobId = some j.id) : laneJob s l = some j := by
  simp [laneJob, e, findJob_of_mem once h]

/-! ### Deposits -/

theorem jc_deposit (j : Job) (d : Deposit) (s : State) : (deposit j d s).jc = s.jc := by
  simp only [deposit]
  cases j.work <;> rfl

theorem paths_deposit (j : Job) (d : Deposit) (s : State) : (deposit j d s).paths = s.paths := by
  simp only [deposit]
  cases j.work <;> rfl

/-- A deposit puts the record into the job's slot and its handle at the tail of the queue (R126). -/
theorem results_deposit (j : Job) (d : Deposit) (s : State) :
    (deposit j d s).results
      = ⟨s.results.slots.set j.handle (.filled (recordOf s j d)), s.results.queue ++ [j.handle]⟩ := by
  simp only [deposit]
  cases j.work <;> rfl

theorem slot_deposit (j : Job) (d : Deposit) (s : State) (h : Handle) :
    (deposit j d s).slot h = if h = j.handle then .filled (recordOf s j d) else s.slot h := by
  rw [State.slot, results_deposit]
  split
  · rename_i e; simp [e]
  · rename_i e
    have e' : (j.handle : Nat) ≠ h := fun z => e (Fin.ext z.symm)
    simp [State.slot, e']

/-- A deposit changes no attachment. -/
theorem OnlyNotices.attachedLane {s t : State} (h : OnlyNotices s t) (k : Site) :
    (t.site k).attachedLane = (s.site k).attachedLane := by rw [h k]

theorem jobs_endInList (code : TermCode) (s : State) (j : Job) :
    (endInList code s j).jobs = s.jobs.eraseP fun x => x.id == j.id := by
  rw [endInList, State.jobs, jc_deposit]
  rfl

theorem slot_endInList (code : TermCode) (s : State) (j : Job) (h : Handle) :
    ∃ r, (endInList code s j).slot h = if h = j.handle then .filled r else s.slot h :=
  ⟨_, slot_deposit j _ (removeJob j.id s) h⟩

theorem lanes_endInList (code : TermCode) (s : State) (j : Job) : (endInList code s j).lanes = s.lanes :=
  lanes_deposit j _ (removeJob j.id s)

/-! ### Ends on a lane -/

theorem lane_of_lanes {s t : State} (h : t.lanes = s.lanes) (l : Lane) : t.lane l = s.lane l :=
  congrArg (fun v : Vector LaneContext 4 => v[l]) h

theorem slot_of_results {s t : State} (h : t.results = s.results) (k : Handle) : t.slot k = s.slot k :=
  congrArg (fun v : ResultStore => v.slots[k]) h

theorem jc_setHold (l : Lane) (j : Job) (dest : LaneState) (s : State) : (setHold l j dest s).jc = s.jc := by
  unfold setHold
  split <;> rfl

theorem results_setHold (l : Lane) (j : Job) (dest : LaneState) (s : State) :
    (setHold l j dest s).results = s.results := by
  unfold setHold
  split <;> rfl

theorem paths_setHold (l : Lane) (j : Job) (dest : LaneState) (s : State) :
    (setHold l j dest s).paths = s.paths := by
  unfold setHold
  split <;> rfl

theorem lane_setHold_of_ne {l m : Lane} (j : Job) (dest : LaneState) (s : State) (h : m ≠ l) :
    (setHold l j dest s).lane m = s.lane m := by
  unfold setHold
  split
  · exact lane_modLane_of_ne s _ h
  · rfl

theorem jc_writeCheckedPath (j : Job) (e : EndReport) (s : State) : (writeCheckedPath j e s).jc = s.jc := by
  unfold writeCheckedPath
  split <;> rfl

theorem results_writeCheckedPath (j : Job) (e : EndReport) (s : State) :
    (writeCheckedPath j e s).results = s.results := by
  unfold writeCheckedPath
  split <;> rfl

/-- What a lane hands at an end (R95). -/
def handedBy (s : State) (l : Lane) (e : EndReport) : Deposit where
  code := e.code
  laneUsed := some l
  start := (s.lane l).run.start
  freqError := e.freqError
  figures := e.figures
  spots := e.spots
  floors := e.floors
  pathUpdated := e.newRating.isSome

/-- An end up to its deposit: the entry removed, the path written and the slot filled (R94 steps 2 to 4). -/
def endDeposit (l : Lane) (j : Job) (e : EndReport) (s : State) : State :=
  deposit j (handedBy s l e) (writeCheckedPath j e (removeJob j.id s))

/-- Steps 2 to 7 of an end, by name (R94). -/
theorem endJob_eq (l : Lane) (j : Job) (e : EndReport) (dest : LaneState) (s : State) :
    endJob l j e dest s = leave l dest (detach l (setHold l j dest (endDeposit l j e s))) := rfl

theorem jc_leave_detach (l : Lane) (dest : LaneState) (u : State) : (leave l dest (detach l u)).jc = u.jc :=
  (keepsWork_detach l u).jc

theorem results_leave_detach (l : Lane) (dest : LaneState) (u : State) :
    (leave l dest (detach l u)).results = u.results := (keepsWork_detach l u).results

theorem paths_leave_detach (l : Lane) (dest : LaneState) (u : State) :
    (leave l dest (detach l u)).paths = u.paths := (keepsWork_detach l u).paths

theorem lane_leave_detach (l : Lane) (dest : LaneState) (u : State) (m : Lane) :
    (leave l dest (detach l u)).lane m =
      if m = l then { u.lane m with run := .idle, state := dest } else u.lane m := by
  rw [leave, lane_modLane, lane_of_lanes (keepsWork_detach l u).lanes]

theorem lanes_endDeposit (l : Lane) (j : Job) (e : EndReport) (s : State) : (endDeposit l j e s).lanes = s.lanes := by
  rw [endDeposit, lanes_deposit, lanes_writeCheckedPath]
  rfl

theorem jobs_endDeposit (l : Lane) (j : Job) (e : EndReport) (s : State) :
    (endDeposit l j e s).jobs = s.jobs.eraseP fun x => x.id == j.id := by
  rw [endDeposit, State.jobs, jc_deposit, jc_writeCheckedPath]
  rfl

theorem slot_endDeposit (l : Lane) (j : Job) (e : EndReport) (s : State) (h : Handle) :
    ∃ r, (endDeposit l j e s).slot h = if h = j.handle then .filled r else s.slot h := by
  refine ⟨recordOf (writeCheckedPath j e (removeJob j.id s)) j (handedBy s l e), ?_⟩
  rw [endDeposit, slot_deposit, slot_of_results (results_writeCheckedPath j e _)]
  rfl

theorem onlyNotices_endDeposit (l : Lane) (j : Job) (e : EndReport) (s : State) :
    OnlyNotices s (endDeposit l j e s) :=
  (onlyNotices_of_sites (sites_writeCheckedPath j e (removeJob j.id s))).trans (onlyNotices_deposit j _ _)

theorem jobs_endJob (l : Lane) (j : Job) (e : EndReport) (dest : LaneState) (s : State) :
    (endJob l j e dest s).jobs = s.jobs.eraseP fun x => x.id == j.id := by
  rw [endJob_eq, State.jobs, jc_leave_detach, jc_setHold]
  exact jobs_endDeposit l j e s

theorem slot_endJob (l : Lane) (j : Job) (e : EndReport) (dest : LaneState) (s : State) (h : Handle) :
    ∃ r, (endJob l j e dest s).slot h = if h = j.handle then .filled r else s.slot h := by
  obtain ⟨r, k⟩ := slot_endDeposit l j e s h
  refine ⟨r, ?_⟩
  rw [← k, endJob_eq]
  exact slot_of_results ((results_leave_detach l dest _).trans (results_setHold l j dest _)) h

theorem lane_endJob_of_ne {l m : Lane} (j : Job) (e : EndReport) (dest : LaneState) (s : State) (h : m ≠ l) :
    (endJob l j e dest s).lane m = s.lane m := by
  rw [endJob_eq, lane_leave_detach, if_neg h, lane_setHold_of_ne j dest _ h, lane_of_lanes (lanes_endDeposit l j e s)]

/-- A detach clears the attachment of the lane's site and of no other (R9). -/
theorem attachedLane_detach (l : Lane) (u : State) (k : Site) :
    ((detach l u).site k).attachedLane =
      if (u.lane l).run.site = some k then none else (u.site k).attachedLane := by
  cases e : (u.lane l).run.site with
  | none => rw [detach_of_none e]; simp
  | some i =>
    rw [detach_of_some e, attachedLane_release, site_modSite]
    by_cases c : k = i
    · simp [c, unattached]
    · have c' : i ≠ k := fun z => c z.symm
      simp [c, c']

end Sys2Proof.Machine
end

section
/-!
SUPPORT. Jobs, slots, lanes and sites in agreement (R9, R61, R62, R71, R84): how an end, a giving back, a pairing and an
enqueue keep them.
-/
namespace Sys2Proof.Machine

/-- The job list and the slots fit, and every attachment is told alike by lane, site and job. -/
structure WorkAgrees (s : State) : Prop where
  slots : SlotsFitJobs s
  attached : AttachmentsAgree s

theorem SlotsFitJobs.ids {s : State} (h : SlotsFitJobs s) : (s.jobs.map (·.id)).Nodup := h.2.1

theorem SlotsFitJobs.handles {s : State} (h : SlotsFitJobs s) : (s.jobs.map (·.handle)).Nodup := h.2.2.1

theorem SlotsFitJobs.reserved {s : State} (h : SlotsFitJobs s) (k : Handle) :
    (s.slot k).isReserved = true ↔ ∃ j ∈ s.jobs, j.handle = k := h.2.2.2 k

/-- Two listed jobs of one handle are one. -/
theorem SlotsFitJobs.handle_unique {s : State} (h : SlotsFitJobs s) {a b : Job} (ha : a ∈ s.jobs) (hb : b ∈ s.jobs)
    (e : a.handle = b.handle) : a = b := List.inj_on_of_nodup_map h.handles ha hb e

/-- The lanes' side of the agreement, with its parts named. -/
theorem AttachmentsAgree.listed {s : State} (h : AttachmentsAgree s) {l : Lane} {id : Nat}
    (e : (s.lane l).run.jobId = some id) :
    ∃ j ∈ s.jobs, j.id = id ∧ (s.lane l).run.site = some j.site ∧ (s.lane l).run.kind = some j.work.kind :=
  h.2.2.2 l id e

theorem AttachmentsAgree.running {s : State} (h : AttachmentsAgree s) {j : Job} (hj : j ∈ s.jobs) (l : Lane) :
    j.running = some l ↔ (s.lane l).run.jobId = some j.id := h.2.2.1 j hj l

theorem AttachmentsAgree.site {s : State} (h : AttachmentsAgree s) (l : Lane) (i : Site) :
    (s.lane l).run.site = some i ↔ (s.site i).attachedLane = some l := h.2.1 l i

theorem AttachmentsAgree.idle {s : State} (h : AttachmentsAgree s) {l : Lane}
    (e : isMeasuring (s.lane l).state = false) : (s.lane l).run.site = none ∧ (s.lane l).run.jobId = none := by
  obtain ⟨a, b⟩ := h.1 l
  rw [e] at a b
  exact ⟨by simpa using a, by simpa using b⟩

/-- Two lanes that name one job are one. -/
theorem AttachmentsAgree.lane_unique {s : State} (h : AttachmentsAgree s) {l m : Lane} {id : Nat}
    (hl : (s.lane l).run.jobId = some id) (hm : (s.lane m).run.jobId = some id) : l = m := by
  obtain ⟨j, hj, rfl, -⟩ := h.listed hl
  have a := (h.running hj l).2 hl
  have b := (h.running hj m).2 hm
  rw [a] at b
  exact Option.some.inj b

/-! ### Changes that do not concern them -/

/-- The job list, the RESERVED slots, the attachments and the runs stand. -/
structure SameWork (s t : State) : Prop where
  jobs : t.jobs = s.jobs
  slots : ∀ h, (t.slot h).isReserved = (s.slot h).isReserved
  sites : ∀ k, (t.site k).attachedLane = (s.site k).attachedLane
  lanes : ∀ l, SameRun (s.lane l) (t.lane l)

theorem WorkAgrees.same {s t : State} (h : WorkAgrees s) (k : SameWork s t) : WorkAgrees t := by
  refine ⟨?_, ?_⟩
  · unfold SlotsFitJobs
    simp only [k.jobs, k.slots]
    exact h.slots
  · unfold AttachmentsAgree
    simp only [k.jobs, k.sites, (k.lanes _).measuring, (k.lanes _).site, (k.lanes _).jobId, (k.lanes _).kind]
    exact h.attached

theorem Steady.sameWork {s t : State} (h : Steady s t) : SameWork s t :=
  ⟨h.jobs, fun k => by rw [slot_of_results h.results], fun k => by rw [site_of_sites h.sites], h.lanes⟩

/-- A change of sites that leaves the attachments does not concern jobs, slots and lanes. -/
theorem sameWork_of_sites {s t : State} (h : KeepsWork s t)
    (sites : ∀ k, (t.site k).attachedLane = (s.site k).attachedLane) : SameWork s t :=
  ⟨congrArg JobController.jobs h.jc, fun k => by rw [slot_of_results h.results], sites,
    fun l => by rw [lane_of_lanes h.lanes]; exact .refl _⟩

theorem sameWork_modSite {s : State} {i : Site} {f : SiteRecord → SiteRecord}
    (same : ∀ r, (f r).attachedLane = r.attachedLane) : SameWork s (s.modSite i f) :=
  sameWork_of_sites (keepsWork_modSite s i f) fun k => by
    rw [site_modSite]
    split
    · exact same _
    · rfl

/-! ### Ends -/

/-- The job list without an entry whose slot is RESERVED no more. -/
theorem SlotsFitJobs.remove {s t : State} (h : SlotsFitJobs s) {j : Job} (hj : j ∈ s.jobs)
    (jobs : t.jobs = s.jobs.eraseP fun x => x.id == j.id)
    (slot : ∀ k, ∃ r, t.slot k = if k = j.handle then .filled r else s.slot k) : SlotsFitJobs t := by
  have sub : t.jobs.Sublist s.jobs := jobs ▸ List.eraseP_sublist
  refine ⟨sub.length_le.trans h.1, h.ids.sublist (sub.map _), h.handles.sublist (sub.map _), fun k => ?_⟩
  rw [eraseP_id_eq_filter h.ids] at jobs
  obtain ⟨r, e⟩ := slot k
  rw [e, jobs]
  split
  · rename_i at_j
    simp only [Slot.isReserved, Bool.false_eq_true, false_iff, not_exists, not_and]
    intro x hx same
    obtain ⟨listed, ne⟩ := List.mem_filter.1 hx
    rw [h.handle_unique listed hj (same.trans at_j)] at ne
    simp at ne
  · rename_i ne
    rw [h.reserved]
    constructor
    · rintro ⟨x, hx, rfl⟩
      refine ⟨x, List.mem_filter.2 ⟨hx, ?_⟩, rfl⟩
      have : x.id ≠ j.id := fun e => ne (by rw [job_unique h.ids hx hj e])
      simpa using this
    · rintro ⟨x, hx, rfl⟩
      exact ⟨x, (List.mem_filter.1 hx).1, rfl⟩

/-- A QUEUED job that leaves the list is no lane's. -/
theorem AttachmentsAgree.removeQueued {s t : State} (h : AttachmentsAgree s) {j : Job} (hj : j ∈ s.jobs)
    (queued : j.running = none) (jobs : ∀ x, x ∈ t.jobs ↔ x ∈ s.jobs ∧ x.id ≠ j.id) (lanes : t.lanes = s.lanes)
    (sites : ∀ k, (t.site k).attachedLane = (s.site k).attachedLane) : AttachmentsAgree t := by
  unfold AttachmentsAgree
  simp only [lane_of_lanes lanes, sites]
  refine ⟨h.1, h.2.1, fun x hx l => h.running ((jobs x).1 hx).1 l, fun l id e => ?_⟩
  obtain ⟨x, hx, rfl, rest⟩ := h.listed e
  refine ⟨x, (jobs x).2 ⟨hx, fun same => ?_⟩, rfl, rest⟩
  rw [same, ← h.running hj, queued] at e
  cases e

/-- A lane that leaves takes its site's attachment with it, and its job leaves the list or is QUEUED. -/
theorem AttachmentsAgree.leave {s t : State} (h : AttachmentsAgree s) {l : Lane} {dest : LaneState}
    (off : isMeasuring dest = false) (run : (t.lane l).run = .idle) (state : (t.lane l).state = dest)
    (lanes : ∀ m, m ≠ l → SameRun (s.lane m) (t.lane m))
    (sites : ∀ k, (t.site k).attachedLane =
      if (s.lane l).run.site = some k then none else (s.site k).attachedLane)
    (listed : ∀ x ∈ t.jobs, x ∈ s.jobs ∧ (s.lane l).run.jobId ≠ some x.id
      ∨ (s.lane l).run.jobId = some x.id ∧ x.running = none)
    (kept : ∀ x ∈ s.jobs, (s.lane l).run.jobId ≠ some x.id → x ∈ t.jobs) : AttachmentsAgree t := by
  have idle : (t.lane l).run.site = none ∧ (t.lane l).run.jobId = none := by rw [run]; exact ⟨rfl, rfl⟩
  refine ⟨fun m => ?_, fun m i => ?_, fun x hx m => ?_, fun m id e => ?_⟩
  all_goals
    by_cases at_l : m = l
    on_goal 1 => subst at_l
  · rw [idle.1, idle.2, state, off]
    exact ⟨rfl, rfl⟩
  · rw [(lanes m at_l).site, (lanes m at_l).jobId, (lanes m at_l).measuring]
    exact h.1 m
  · rw [idle.1, sites]
    split
    · simp
    · rename_i other
      rw [← h.site]
      simp [other]
  · rw [(lanes m at_l).site, sites, h.site]
    split
    · rename_i e
      rw [(h.site l i).1 e]
      simp [Ne.symm at_l]
    · rfl
  · rw [idle.2]
    rcases listed x hx with ⟨hx, ne⟩ | ⟨-, q⟩
    · rw [h.running hx]
      simp [ne]
    · simp [q]
  · rw [(lanes m at_l).jobId]
    rcases listed x hx with ⟨hx, -⟩ | ⟨e, q⟩
    · exact h.running hx m
    · rw [q]
      refine ⟨fun e => (by cases e), fun e' => absurd (h.lane_unique e' e) at_l⟩
  · rw [idle.2] at e
    cases e
  · rw [(lanes m at_l).jobId] at e
    rw [(lanes m at_l).site, (lanes m at_l).kind]
    obtain ⟨x, hx, rfl, rest⟩ := h.listed e
    exact ⟨x, kept x hx fun e' => at_l (h.lane_unique e e'), rfl, rest⟩

theorem mem_eraseP_id {s : State} (h : SlotsFitJobs s) (id : Nat) (x : Job) :
    x ∈ s.jobs.eraseP (fun y => y.id == id) ↔ x ∈ s.jobs ∧ x.id ≠ id := by
  rw [eraseP_id_eq_filter h.ids, List.mem_filter]
  simp

/-- A QUEUED job ends in the list (R76). -/
theorem WorkAgrees.endInList {s : State} (h : WorkAgrees s) (code : TermCode) {j : Job} (hj : j ∈ s.jobs)
    (queued : j.running = none) : WorkAgrees (endInList code s j) := by
  refine ⟨h.slots.remove hj (jobs_endInList code s j) (slot_endInList code s j), ?_⟩
  refine h.attached.removeQueued hj queued (fun x => ?_) (lanes_endInList code s j)
    (onlyNotices_endInList code s j).attachedLane
  rw [jobs_endInList]
  exact mem_eraseP_id h.slots j.id x

/-- A listed job ends on the lane that runs it, which leaves the measuring states (R94). -/
theorem WorkAgrees.endJob {s : State} (h : WorkAgrees s) {l : Lane} {j : Job} (hj : j ∈ s.jobs)
    (runs : (s.lane l).run.jobId = some j.id) (e : EndReport) {dest : LaneState} (off : isMeasuring dest = false) :
    WorkAgrees (endJob l j e dest s) := by
  refine ⟨h.slots.remove hj (jobs_endJob l j e dest s) (slot_endJob l j e dest s), ?_⟩
  refine h.attached.leave (l := l) off ?_ ?_ (fun m ne => ?_) (fun k => ?_) (fun x hx => ?_) (fun x hx ne => ?_)
  · rw [endJob_eq, lane_leave_self]
  · rw [endJob_eq, lane_leave_self]
  · rw [lane_endJob_of_ne j e dest s ne]
    exact .refl _
  · rw [endJob_eq, site_of_sites (sites_leave l dest _), attachedLane_detach, run_setHold,
      lane_of_lanes (lanes_endDeposit l j e s), site_of_sites (sites_setHold l j dest _),
      (onlyNotices_endDeposit l j e s).attachedLane]
  · rw [jobs_endJob, mem_eraseP_id h.slots] at hx
    refine .inl ⟨hx.1, ?_⟩
    rw [runs]
    exact fun e => hx.2 (Option.some.inj e).symm
  · rw [jobs_endJob, mem_eraseP_id h.slots]
    refine ⟨hx, fun e => ne ?_⟩
    rw [runs, e]

/-- A lane that runs no listed job does not measure, and only leaves. -/
theorem WorkAgrees.leaveIdle {s : State} (h : WorkAgrees s) {l : Lane} (none : laneJob s l = none) {dest : LaneState}
    (off : isMeasuring dest = false) : WorkAgrees (leave l dest (detach l s)) := by
  have noJob : (s.lane l).run.jobId = Option.none := by
    by_contra some
    obtain ⟨id, e⟩ := Option.ne_none_iff_exists'.1 some
    obtain ⟨j, hj, rfl, -⟩ := h.attached.listed e
    rw [laneJob_of h.slots.ids hj e] at none
    cases none
  have idle : isMeasuring (s.lane l).state = false := by
    rw [← (h.attached.1 l).2, noJob]
    rfl
  rw [detach_of_none (h.attached.idle idle).1]
  refine ⟨h.slots, h.attached.leave (l := l) off ?_ ?_ (fun m ne => ?_) (fun k => ?_) (fun x hx => ?_) fun x hx _ => hx⟩
  · rw [lane_leave_self]
  · rw [lane_leave_self]
  · rw [lane_leave_of_ne dest s ne]
    exact .refl _
  · rw [(h.attached.idle idle).1]
    rfl
  · exact .inl ⟨hx, by simp [noJob]⟩

theorem WorkAgrees.laneEnd {s : State} (h : WorkAgrees s) (l : Lane) (e : EndReport) {dest : LaneState}
    (off : isMeasuring dest = false) : WorkAgrees (laneEnd l e dest s) := by
  unfold Machine.laneEnd
  split
  · rename_i none
    exact h.leaveIdle none off
  · rename_i j some
    obtain ⟨runs, -, listed⟩ := laneJob_eq_some some
    exact h.endJob listed runs e off

/-! ### Requeues (R73) -/

@[simp] theorem id_requeued (cause : RequeueCause) (j : Job) : (requeued cause j).id = j.id := by cases cause <;> rfl
@[simp] theorem work_requeued (cause : RequeueCause) (j : Job) : (requeued cause j).work = j.work := by
  cases cause <;> rfl
@[simp] theorem site_requeued (cause : RequeueCause) (j : Job) : (requeued cause j).site = j.site := by
  cases cause <;> rfl
@[simp] theorem handle_requeued (cause : RequeueCause) (j : Job) : (requeued cause j).handle = j.handle := by
  cases cause <;> rfl
@[simp] theorem running_requeued (cause : RequeueCause) (j : Job) : (requeued cause j).running = none := by
  cases cause <;> rfl

theorem jobs_requeueEntry (cause : RequeueCause) (j : Job) (s : State) :
    (requeueEntry cause j s).jobs = requeued cause j :: s.jobs.eraseP fun x => x.id == j.id := rfl

/-- A requeue keeps the ids, the handles and their slots. -/
theorem SlotsFitJobs.requeue {s t : State} (h : SlotsFitJobs s) {j : Job} (found : s.findJob j.id = some j)
    (cause : RequeueCause) (jobs : t.jobs = requeued cause j :: s.jobs.eraseP fun x => x.id == j.id)
    (slot : ∀ k, t.slot k = s.slot k) : SlotsFitJobs t := by
  have perm : s.jobs.Perm (j :: s.jobs.eraseP fun x => x.id == j.id) := perm_cons_eraseP found
  have ids : t.jobs.map (·.id) = (j :: s.jobs.eraseP fun x => x.id == j.id).map (·.id) := by simp [jobs]
  have handles : t.jobs.map (·.handle) = (j :: s.jobs.eraseP fun x => x.id == j.id).map (·.handle) := by simp [jobs]
  refine ⟨?_, ?_, ?_, fun k => ?_⟩
  · rw [jobs]
    exact perm.length_eq ▸ h.1
  · rw [ids]
    exact (perm.map _).nodup_iff.1 h.ids
  · rw [handles]
    exact (perm.map _).nodup_iff.1 h.handles
  · have mem : k ∈ t.jobs.map (·.handle) ↔ k ∈ s.jobs.map (·.handle) := by rw [handles, (perm.map _).mem_iff]
    simp only [List.mem_map] at mem
    rw [slot, h.reserved, mem]

theorem WorkAgrees.requeue {s : State} (h : WorkAgrees s) {l : Lane} {j : Job} (some : laneJob s l = some j)
    (cause : RequeueCause) {dest : LaneState} (off : isMeasuring dest = false) :
    WorkAgrees (leave l dest (detach l (requeueEntry cause j s))) := by
  obtain ⟨runs, found, listed⟩ := laneJob_eq_some some
  have jobs : (leave l dest (detach l (requeueEntry cause j s))).jobs
      = requeued cause j :: s.jobs.eraseP fun x => x.id == j.id :=
    (congrArg JobController.jobs (jc_leave_detach l dest _)).trans (jobs_requeueEntry cause j s)
  refine ⟨h.slots.requeue found cause jobs fun k => slot_of_results (results_leave_detach l dest _) k, ?_⟩
  refine h.attached.leave (l := l) off ?_ ?_ (fun m ne => ?_) (fun k => ?_) (fun x hx => ?_) (fun x hx ne => ?_)
  · rw [lane_leave_self]
  · rw [lane_leave_self]
  · rw [lane_leave_detach, if_neg ne]
    exact .refl _
  · rw [site_of_sites (sites_leave l dest _), attachedLane_detach]
    rfl
  · rw [jobs, List.mem_cons, mem_eraseP_id h.slots] at hx
    rcases hx with rfl | ⟨hx, ne⟩
    · exact .inr ⟨by rw [id_requeued, runs], running_requeued cause j⟩
    · refine .inl ⟨hx, ?_⟩
      rw [runs]
      exact fun e => ne (Option.some.inj e).symm
  · rw [jobs, List.mem_cons, mem_eraseP_id h.slots]
    refine .inr ⟨hx, fun e => ne ?_⟩
    rw [runs, e]

theorem WorkAgrees.giveBack {s : State} (h : WorkAgrees s) (l : Lane) (cause : RequeueCause) {dest : LaneState}
    (off : isMeasuring dest = false) : WorkAgrees (giveBack l cause dest s) := by
  unfold Machine.giveBack
  split
  · rename_i none
    exact h.leaveIdle none off
  · rename_i j some
    obtain ⟨runs, -, listed⟩ := laneJob_eq_some some
    split
    · exact h.endJob listed runs _ off
    · exact h.requeue some cause off

/-! ### Ends of several jobs -/

/-- Ends of listed jobs, one after another: each finds its job still listed. -/
theorem WorkAgrees.foldl_ends {f : State → Job → State} {fit : Job → Prop}
    (hf : ∀ s j, WorkAgrees s → j ∈ s.jobs → fit j →
      WorkAgrees (f s j) ∧ (f s j).jobs = s.jobs.eraseP fun x => x.id == j.id)
    {gone : List Job} (once : (gone.map (·.id)).Nodup) {s : State} (h : WorkAgrees s)
    (listed : ∀ j ∈ gone, j ∈ s.jobs ∧ fit j) : WorkAgrees (gone.foldl f s) := by
  induction gone generalizing s with
  | nil => exact h
  | cons j rest ih =>
    rw [List.map_cons, List.nodup_cons] at once
    obtain ⟨hj, fits⟩ := listed j List.mem_cons_self
    obtain ⟨kept, jobs⟩ := hf s j h hj fits
    refine ih once.2 kept fun x hx => ?_
    obtain ⟨hx', fits'⟩ := listed x (List.mem_cons_of_mem _ hx)
    rw [jobs, mem_eraseP_id h.slots]
    exact ⟨⟨hx', fun e => once.1 (List.mem_map.2 ⟨x, hx, e⟩)⟩, fits'⟩

/-- QUEUED jobs of the list end in the list, in list order (R74, R75). -/
theorem WorkAgrees.endAll {s : State} (h : WorkAgrees s) (code : TermCode) {p : Job → Bool}
    (queued : ∀ j, p j = true → j.queued = true) : WorkAgrees ((s.jobs.filter p).foldl (Machine.endInList code) s) := by
  refine h.foldl_ends (fit := fun j => j.running = none)
    (fun s j h hj q => ⟨h.endInList code hj q, jobs_endInList code s j⟩)
    (h.slots.ids.sublist (List.filter_sublist.map _)) fun j hj => ?_
  obtain ⟨listed, pj⟩ := List.mem_filter.1 hj
  exact ⟨listed, by simpa [Job.queued] using queued j pj⟩

theorem queued_of_queuedMeasureFor {i : Site} {j : Job} (h : queuedMeasureFor i j = true) : j.queued = true := by
  simp only [queuedMeasureFor, Bool.and_eq_true] at h
  exact h.1.1

theorem queued_of_queuedCheckOn {l : Lane} {j : Job} (h : queuedCheckOn l j = true) : j.queued = true := by
  simp only [queuedCheckOn, Bool.and_eq_true] at h
  exact h.1

theorem WorkAgrees.cancel {s : State} (h : WorkAgrees s) (x : Selector) :
    WorkAgrees ((s.jobs.filter x.selects).foldl cancelJob s) := by
  refine h.foldl_ends (fit := fun _ => True) (fun s j h hj _ => ?_)
    (h.slots.ids.sublist (List.filter_sublist.map _)) fun j hj => ⟨(List.mem_filter.1 hj).1, trivial⟩
  unfold cancelJob
  split
  · rename_i q
    exact ⟨h.endInList _ hj q, jobs_endInList _ s j⟩
  · rename_i l runs
    exact ⟨h.endJob hj ((h.attached.running hj l).1 runs) _ rfl, jobs_endJob l j _ _ s⟩

theorem keptByEnds_workAgrees : KeptByEnds WorkAgrees where
  steady k h := h.same k.sameWork
  laneEnd l e _ off h := h.laneEnd l e off
  giveBack l cause _ off h := h.giveBack l cause off
  announce _ h := h.endAll _ fun _ => queued_of_queuedMeasureFor
  endChecksOn _ h := h.endAll _ fun _ => queued_of_queuedCheckOn
  disturbQuad q h := h.same (sameWork_of_sites (keepsWork_disturbQuad q _) (attachedLane_disturbQuad q _))

end Sys2Proof.Machine
end

section
/-!
SUPPORT. Jobs and attachments are kept by every step (R61, R62, R71, R84): pairing, enqueue, the sites' own events, RESTART,
reset and the tick.
-/
namespace Sys2Proof.Machine

/-! ### Events of the sites -/

theorem attachedLane_foldl_modSite {f : SiteRecord → SiteRecord} (same : ∀ r, (f r).attachedLane = r.attachedLane)
    (sites : List Site) (s : State) (k : Site) :
    ((sites.foldl (fun s i => s.modSite i f) s).site k).attachedLane = (s.site k).attachedLane := by
  induction sites generalizing s with
  | nil => rfl
  | cons i rest ih =>
    rw [List.foldl_cons, ih, site_modSite]
    split
    · exact same _
    · rfl

theorem attachedLane_claimTogether {q : Quad} (sites : List Site) (s : State) (k : Site) :
    ((claimTogether q sites s).site k).attachedLane = (s.site k).attachedLane := by
  unfold claimTogether
  split
  · exact attachedLane_foldl_modSite (f := fun r => { r with state := .powerPending }) (fun _ => rfl) sites s k
  · rw [switchOn, attachedLane_disturbQuad]
    exact attachedLane_foldl_modSite (f := switchedOn) (fun _ => rfl) sites s k

theorem keepsWork_seat (s : State) (i : Site) : KeepsWork s (seat s i) := keepsWork_modSite s i _

theorem attachedLane_foldl_seat (sites : List Site) (s : State) (k : Site) :
    ((sites.foldl seat s).site k).attachedLane = (s.site k).attachedLane :=
  attachedLane_foldl_modSite (f := fun r => { takeContact true r with state := .seated }) (fun _ => rfl) sites s k

/-- A contact rise changes no attachment. -/
theorem sameWork_contactRise (i : Site) (s : State) : SameWork s (contactRise i s) := by
  simp only [contactRise]
  split
  · split
    · split
      · refine sameWork_of_sites ((keepsWork_foldl _ keepsWork_seat _ s).trans (keepsWork_claimTogether _ _ _))
          fun k => ?_
        rw [attachedLane_claimTogether, attachedLane_foldl_seat]
      · exact sameWork_modSite fun _ => rfl
    · exact sameWork_modSite fun _ => rfl
  · exact (Steady.refl s).sameWork

theorem SameWork.trans {s t u : State} (h : SameWork s t) (k : SameWork t u) : SameWork s u :=
  ⟨k.jobs.trans h.jobs, fun x => (k.slots x).trans (h.slots x), fun x => (k.sites x).trans (h.sites x),
    fun l => (h.lanes l).trans (k.lanes l)⟩

theorem sameWork_settleExpiry (i : Site) (s : State) : SameWork s (settleExpiry i s) := by
  simp only [settleExpiry]
  split
  · exact sameWork_modSite fun _ => rfl
  · exact (Steady.refl s).sameWork

theorem sameWork_modStore (s : State) (f : PlanStore → PlanStore) : SameWork s (s.modStore f) :=
  ⟨rfl, fun _ => rfl, fun _ => rfl, fun _ => .refl _⟩

theorem sameWork_modLink (s : State) (f : LinkPort → LinkPort) : SameWork s (s.modLink f) :=
  ⟨rfl, fun _ => rfl, fun _ => rfl, fun _ => .refl _⟩

theorem sameWork_tickAll (contact flt : BitVec 16) (s : State) : SameWork s (tickAll contact flt s) := by
  refine ⟨rfl, fun _ => rfl, fun k => ?_, fun l => ?_⟩
  · rw [site_tickAll, tickSite_eq]
  · simp only [tickAll, lane_modLink, lane_mapLanes, lane_mapQuiet, lane_mapSites, lane_modRef]
    exact ⟨rfl, rfl, rfl, rfl⟩

/-- A property of jobs and attachments: what leaves them alone keeps it. -/
structure KeptByWork (P : State → Prop) : Prop extends KeptByEnds P where
  same : ∀ {s t}, SameWork s t → P s → P t

section
variable {P : State → Prop} (h : KeptByWork P)
include h

theorem KeptByWork.modSite {s : State} (i : Site) {f : SiteRecord → SiteRecord}
    (same : ∀ r, (f r).attachedLane = r.attachedLane) (hs : P s) : P (s.modSite i f) :=
  h.same (sameWork_modSite same) hs

theorem KeptByWork.switchOff {s : State} (i : Site) (dest : SiteState) (cause : SwitchCause) (hs : P s) :
    P (switchOff i dest cause s) :=
  h.quadEvent _ _ cause (h.modSite i (fun _ => rfl) hs)

theorem KeptByWork.contactFall {s : State} (i : Site) (hs : P s) : P (contactFall i s) := by
  have fallen : P (s.modSite i (takeContact false)) := h.modSite i (fun _ => rfl) hs
  have vacant : P ((s.modSite i (takeContact false)).modSite i fun r => { r with state := .vacant }) :=
    h.modSite i (fun _ => rfl) fallen
  simp only [Machine.contactFall]
  split
  · split
    case h_1 | h_2 => exact fallen
    case h_3 | h_4 | h_5 => exact h.announce i vacant
    case h_6 | h_7 => exact h.announce i (h.switchOff i .vacant .contactFall fallen)
  · exact hs

theorem KeptByWork.supplyFaultTrip {s : State} (i : Site) (hs : P s) : P (supplyFaultTrip i s) := by
  have counted : P (s.modSite i fun r => { r with faults := min 255 (r.faults + 1) }) :=
    h.modSite i (fun _ => rfl) hs
  simp only [Machine.supplyFaultTrip]
  split
  · exact h.announce i (h.steady (steady_onlyLink (onlyLink_raiseSupplyFault i _) rfl)
      (h.switchOff i .fault .faultTrip counted))
  · exact hs

theorem KeptByWork.enterSite {s : State} (i : Site) (x : SiteState) (hs : P s) : P (enterSite i x s) := by
  have moved : P (s.modSite i fun r => { r with state := x }) := h.modSite i (fun _ => rfl) hs
  simp only [Machine.enterSite]
  split
  · exact h.announce i moved
  · exact moved

theorem KeptByWork.siteMode {s : State} (i : Site) (e a : Option Bool) (t : Option Nat) (hs : P s) :
    P (applySiteMode i e a t s).2 := by
  have enabled : P (setEnable i e s) := by
    simp only [setEnable]
    split
    · exact hs
    · split
      · exact h.enterSite i _ hs
      · exact hs
    · split
      · exact hs
      · exact h.enterSite i _ hs
  unfold applySiteMode
  split
  · exact hs
  · exact h.modSite i (fun _ => rfl) enabled

/-- Such a property is kept by every step, when pairing, enqueue, cancel, results, RESTART, reset and tick keep it. -/
theorem KeptByWork.ops
    (pairing : ∀ {s} {j l}, nextPair s = some (j, l) → P s → P (pair j l s))
    (append : ∀ {s} batch news, enqueueRefusal s news = none → hasRoom s news.length = true → NewsFit news → P s →
      P (appendJobs batch news s))
    (cancel : ∀ {s} (x : Selector), P s → P ((s.jobs.filter x.selects).foldl cancelJob s))
    (takeHead : ∀ {s} h rest r, s.results.queue = h :: rest → (s.slot h).record? = some r → P s →
      P (takeHead h rest r s))
    (freeSlot : ∀ {s} h r, s.slot h = .taken r → P s → P (s.setSlot h .free))
    (restart : ∀ {s}, P s → P (issueRestart s)) (reset : ∀ {s} contact rate, P (resetTo contact rate s)) :
    KeptByOps P where
  toKeptByEnds := h.toKeptByEnds
  contactRise i hs := h.same (sameWork_contactRise i _) hs
  contactFall i hs := h.contactFall i hs
  supplyFaultTrip i hs := h.supplyFaultTrip i hs
  settleExpiry i hs := h.same (sameWork_settleExpiry i _) hs
  siteMode i e a t hs := h.siteMode i e a t hs
  claim i _ hs := h.same (sameWork_of_sites (keepsWork_claimPower i _) (attachedLane_claimTogether [i] _)) hs
  powerOff i _ hs := h.switchOff i .seated .powerOff hs
  withdraw i _ hs := h.modSite i (fun _ => rfl) hs
  clear i _ hs := h.enterSite i _ hs
  pairing := pairing
  append := append
  cancel := cancel
  takeHead := takeHead
  freeSlot := freeSlot
  setPlan _ _ _ hs := h.same (sameWork_modStore _ _) hs
  setLimits _ _ _ hs := h.same (sameWork_modStore _ _) hs
  boundary _ hs := h.same (sameWork_modStore _ _) hs
  setting _ _ _ _ hs := h.same (sameWork_modLink _ _) hs
  restart := restart
  reset := reset
  tick contact flt hs := h.same (sameWork_tickAll contact flt _) hs

end

/-! ### Pairing (R71) -/

theorem jobs_pair (j : Job) (l : Lane) (s : State) :
    (pair j l s).jobs = s.jobs.map fun x => if x.id = j.id then pairedJob l s.now x else x := rfl

theorem slot_pair (j : Job) (l : Lane) (s : State) (h : Handle) : (pair j l s).slot h = s.slot h := rfl

theorem lane_pair (j : Job) (l : Lane) (s : State) (m : Lane) :
    (pair j l s).lane m = if m = l then pairedLane j (jobBudget s j.work) s.now (s.lane m) else s.lane m := by
  simp only [pair, lane_modLink, lane_modLane, lane_modSite, lane_setJobs]

theorem site_pair (j : Job) (l : Lane) (s : State) (k : Site) :
    (pair j l s).site k = if k = j.site then
      { s.site k with attachedLane := some l, attachedKind := some j.work.kind } else s.site k := by
  simp only [pair, site_modLink, site_modLane, site_modSite, site_setJobs]

/-- What a job that may start has: it is QUEUED, its site is free and its lane IDLE. -/
theorem free_of_mayStart {s : State} {j : Job} {l : Lane} (h : mayStart s j l = true) :
    j.running = none ∧ (s.site j.site).attachedLane = none ∧ (s.lane l).state = .idle := by
  simp only [mayStart, siteEligible, laneEligible, laneFree, Job.queued, Bool.and_eq_true, Option.isNone_iff_eq_none,
    beq_iff_eq] at h
  exact ⟨h.1.1, h.1.2.1.1.2, h.2.1.1.1.1.1⟩

theorem SlotsFitJobs.pair {s : State} (h : SlotsFitJobs s) (j : Job) (l : Lane) : SlotsFitJobs (pair j l s) := by
  have ids : (Machine.pair j l s).jobs.map (·.id) = s.jobs.map (·.id) := by
    rw [jobs_pair, List.map_map]
    refine List.map_congr_left fun x _ => ?_
    simp only [Function.comp_apply]
    split <;> rfl
  have handles : (Machine.pair j l s).jobs.map (·.handle) = s.jobs.map (·.handle) := by
    rw [jobs_pair, List.map_map]
    refine List.map_congr_left fun x _ => ?_
    simp only [Function.comp_apply]
    split <;> rfl
  refine ⟨?_, ?_, ?_, fun k => ?_⟩
  · rw [jobs_pair, List.length_map]
    exact h.1
  · rw [ids]
    exact h.ids
  · rw [handles]
    exact h.handles
  · have mem : k ∈ (Machine.pair j l s).jobs.map (·.handle) ↔ k ∈ s.jobs.map (·.handle) := by rw [handles]
    simp only [List.mem_map] at mem
    rw [slot_pair, h.reserved, mem]

theorem WorkAgrees.pair {s : State} (h : WorkAgrees s) {j : Job} {l : Lane} (hj : j ∈ s.jobs)
    (may : mayStart s j l = true) : WorkAgrees (pair j l s) := by
  obtain ⟨queued, free, idle⟩ := free_of_mayStart may
  obtain ⟨noSite, noJob⟩ := h.attached.idle (l := l) (by rw [idle]; rfl)
  have notRun (m : Lane) : (s.lane m).run.jobId ≠ some j.id := fun e => by
    rw [← h.attached.running hj, queued] at e
    cases e
  refine ⟨h.slots.pair j l, fun m => ?_, fun m i => ?_, fun x hx m => ?_, fun m id e => ?_⟩
  · rw [lane_pair]
    split
    · exact ⟨rfl, rfl⟩
    · exact h.attached.1 m
  · rw [lane_pair, site_pair]
    by_cases at_l : m = l
    · subst at_l
      by_cases at_i : i = j.site
      · simp [at_i, pairedLane, runOf]
      · rw [if_pos rfl, if_neg at_i, ← h.attached.site, noSite]
        simpa [pairedLane, runOf] using fun e => at_i (Eq.symm e)
    · rw [if_neg at_l]
      by_cases at_i : i = j.site
      · subst at_i
        rw [if_pos rfl, h.attached.site, free]
        simpa using fun e => at_l (Eq.symm e)
      · rw [if_neg at_i]
        exact h.attached.site m i
  · rw [jobs_pair] at hx
    obtain ⟨y, hy, rfl⟩ := List.mem_map.1 hx
    rw [lane_pair]
    by_cases same : y.id = j.id
    · rw [job_unique h.slots.ids hy hj same, if_pos rfl]
      by_cases at_l : m = l
      · simp [at_l, pairedLane, runOf, pairedJob]
      · simpa [at_l, pairedJob, notRun m] using fun e => at_l (Eq.symm e)
    · rw [if_neg same]
      by_cases at_l : m = l
      · subst at_l
        have none : y.running ≠ some m := fun e => by
          rw [h.attached.running hy, noJob] at e
          cases e
        simpa [none, pairedLane, runOf] using fun e => same (Eq.symm e)
      · rw [if_neg at_l]
        exact h.attached.running hy m
  · rw [jobs_pair]
    rw [lane_pair] at e ⊢
    by_cases at_l : m = l
    · rw [if_pos at_l] at e ⊢
      cases e
      exact ⟨pairedJob l s.now j, List.mem_map.2 ⟨j, hj, by simp⟩, rfl, rfl, rfl⟩
    · rw [if_neg at_l] at e ⊢
      obtain ⟨y, hy, rfl, rest⟩ := h.attached.listed e
      refine ⟨y, List.mem_map.2 ⟨y, hy, if_neg fun same => notRun m ?_⟩, rfl, rest⟩
      rw [← same]
      exact e

/-! ### Enqueue (R61, R62, R125) -/

/-- The ids tried are the values after the last one, upward and wrapping from 255 to 1. -/
theorem nextIdFrom_mem {used : List Nat} {fuel last : Nat} (h : nextIdFrom used fuel last ∈ used) :
    ∀ k < fuel, (last + k) % 255 + 1 ∈ used := by
  induction fuel generalizing last with
  | zero => intro k hk; omega
  | succ fuel ih =>
    simp only [nextIdFrom, List.contains_eq_mem, decide_eq_true_eq] at h
    split at h
    · rename_i here
      intro k hk
      cases k with
      | zero => exact here
      | succ k =>
        have e : (last + (k + 1)) % 255 + 1 = (last % 255 + 1 + k) % 255 + 1 := by omega
        rw [e]
        exact ih h k (by omega)
    · rename_i here
      exact absurd h here

/-- With fewer than 255 ids in use, the next id is none of them (R62). -/
theorem nextId_not_mem {used : List Nat} (room : used.length < 255) (last : Nat) : nextId last used ∉ used := by
  intro h
  have all := nextIdFrom_mem h
  have sub : (Finset.range 255).image (fun k => (last + k) % 255 + 1) ⊆ used.toFinset := by
    intro x hx
    obtain ⟨k, hk, rfl⟩ := Finset.mem_image.1 hx
    exact List.mem_toFinset.2 (all k (Finset.mem_range.1 hk))
  have distinct : ((Finset.range 255).image fun k => (last + k) % 255 + 1).card = 255 := by
    rw [Finset.card_image_of_injOn, Finset.card_range]
    intro a ha b hb e
    simp only [Finset.coe_range, Set.mem_Iio] at ha hb
    simp only at e
    omega
  have := (Finset.card_le_card sub).trans used.toFinset_card_le
  omega

theorem lowestFree_isFree {s : State} {h : Handle} (e : lowestFree s = some h) : (s.slot h).isFree = true :=
  List.find?_some (p := fun k => (s.slot k).isFree) e

/-- The entry that an enqueue appends (R63). -/
def newEntry (batch : Option Nat) (s : State) (n : NewJob) (h : Handle) : Job where
  id := nextJobId s
  work := n.work
  site := n.site
  batch := batch
  running := none
  handle := h
  retries := 0
  preemptions := 0
  enqueued := s.now
  lastRun := none

theorem appendJob_of_free {batch : Option Nat} {s : State} {n : NewJob} {h : Handle} (e : lowestFree s = some h) :
    appendJob batch s n = (s.setSlot h .reserved).modJc fun c =>
      { c with jobs := c.jobs ++ [newEntry batch s n h], lastJobId := nextJobId s } := by
  simp only [appendJob, e]
  rfl

theorem appendJob_of_none {batch : Option Nat} {s : State} {n : NewJob} (e : lowestFree s = none) :
    appendJob batch s n = s := by
  simp only [appendJob, e]

theorem length_appendJob (batch : Option Nat) (s : State) (n : NewJob) :
    (appendJob batch s n).jobs.length ≤ s.jobs.length + 1 := by
  cases e : lowestFree s with
  | none => rw [appendJob_of_none e]; omega
  | some h =>
    rw [appendJob_of_free e]
    exact le_of_eq List.length_append

theorem WorkAgrees.appendJob {s : State} (h : WorkAgrees s) (room : s.jobs.length < 32) (batch : Option Nat)
    (n : NewJob) : WorkAgrees (appendJob batch s n) := by
  cases free : lowestFree s with
  | none => rw [appendJob_of_none free]; exact h
  | some k =>
    rw [appendJob_of_free free]
    have isFree := lowestFree_isFree free
    have fresh : ∀ j ∈ s.jobs, j.id ≠ nextJobId s := fun j hj e =>
      nextId_not_mem (used := s.jobs.map (·.id)) (by simpa using room.trans (by omega)) s.jc.lastJobId
        (List.mem_map.2 ⟨j, hj, e⟩)
    have unused : ∀ j ∈ s.jobs, j.handle ≠ k := fun j hj e => by
      have r := (h.slots.reserved k).2 ⟨j, hj, e⟩
      cases x : s.slot k <;> simp [x, Slot.isFree, Slot.isReserved] at isFree r
    have slot (m : Handle) : ((s.setSlot k .reserved).slot m) = if m = k then .reserved else s.slot m := by
      split
      · rename_i e; rw [e, slot_setSlot_self]
      · rename_i e; exact slot_setSlot_of_ne s _ e
    refine ⟨⟨?_, ?_, ?_, fun m => ?_⟩, ?_⟩
    · show (s.jobs ++ [newEntry batch s n k]).length ≤ 32
      rw [List.length_append]
      exact room
    · show ((s.jobs ++ [newEntry batch s n k]).map (·.id)).Nodup
      rw [List.map_append, List.nodup_append]
      refine ⟨h.slots.ids, List.nodup_singleton _, fun a ha b hb => ?_⟩
      obtain ⟨j, hj, rfl⟩ := List.mem_map.1 ha
      rw [List.mem_singleton.1 hb]
      exact fresh j hj
    · show ((s.jobs ++ [newEntry batch s n k]).map (·.handle)).Nodup
      rw [List.map_append, List.nodup_append]
      refine ⟨h.slots.handles, List.nodup_singleton _, fun a ha b hb => ?_⟩
      obtain ⟨j, hj, rfl⟩ := List.mem_map.1 ha
      rw [List.mem_singleton.1 hb]
      exact unused j hj
    · show ((s.setSlot k .reserved).slot m).isReserved = true ↔ ∃ j ∈ s.jobs ++ [newEntry batch s n k], j.handle = m
      rw [slot]
      split
      · rename_i e
        exact iff_of_true rfl ⟨newEntry batch s n k, by simp, e.symm⟩
      · rename_i e
        rw [h.slots.reserved]
        constructor
        · rintro ⟨j, hj, rfl⟩
          exact ⟨j, List.mem_append_left _ hj, rfl⟩
        · rintro ⟨j, hj, rfl⟩
          rcases List.mem_append.1 hj with hj | hj
          · exact ⟨j, hj, rfl⟩
          · exact absurd (by rw [List.mem_singleton.1 hj]; rfl) e
    · refine ⟨h.attached.1, h.attached.2.1, fun j hj l => ?_, fun l id e => ?_⟩
      · rcases List.mem_append.1 hj with hj | hj
        · exact h.attached.running hj l
        · rw [List.mem_singleton.1 hj]
          refine iff_of_false (by simp [newEntry]) fun e => ?_
          obtain ⟨x, hx, same, -⟩ := h.attached.listed e
          exact fresh x hx same
      · obtain ⟨j, hj, rest⟩ := h.attached.listed e
        exact ⟨j, List.mem_append_left _ hj, rest⟩

theorem WorkAgrees.appendJobs {s : State} (h : WorkAgrees s) (batch : Option Nat) (news : List NewJob)
    (room : s.jobs.length + news.length ≤ 32) : WorkAgrees (appendJobs batch news s) := by
  unfold Machine.appendJobs
  induction news generalizing s with
  | nil => exact h
  | cons n rest ih =>
    rw [List.length_cons] at room
    have := length_appendJob batch s n
    exact ih (h.appendJob (by omega) batch n) (by omega)

theorem room_of_hasRoom {s : State} {n : Nat} (h : hasRoom s n = true) : s.jobs.length + n ≤ 32 := by
  simp only [hasRoom, Bool.and_eq_true, decide_eq_true_eq] at h
  exact h.1

/-! ### RESTART and reset -/

theorem lane_issueRestart (s : State) (l : Lane) : (issueRestart s).lane l = restartLane (s.lane l) := by
  simp only [issueRestart, raiseAlert, restartSites, lane_modLink, lane_modResults, lane_setJobs, lane_mapLanes,
    lane_mapSites, lane_mapQuiet]

theorem jobs_issueRestart (s : State) : (issueRestart s).jobs = [] := rfl

theorem slot_replicate_free (h : Handle) : (ResultStore.atReset.slots)[h] = .free := by
  simp [ResultStore.atReset]

theorem slot_issueRestart (s : State) (h : Handle) : (issueRestart s).slot h = .free := slot_replicate_free h

theorem slot_resetTo (contact : BitVec 16) (rate : BitVec 2) (s : State) (h : Handle) :
    (resetTo contact rate s).slot h = .free := slot_replicate_free h

theorem lane_resetTo (contact : BitVec 16) (rate : BitVec 2) (s : State) (l : Lane) :
    (resetTo contact rate s).lane l = .atReset := by
  simp [resetTo, State.atReset, State.lane]

/-- A state without jobs, reserved slots and attachments is in agreement. -/
theorem workAgrees_of_none {s : State} (jobs : s.jobs = []) (slots : ∀ h, s.slot h = .free)
    (lanes : ∀ l, isMeasuring (s.lane l).state = false ∧ (s.lane l).run.site = none ∧ (s.lane l).run.jobId = none)
    (sites : ∀ k, (s.site k).attachedLane = none) : WorkAgrees s := by
  refine ⟨⟨?_, ?_, ?_, fun h => ?_⟩, fun l => ?_, fun l i => ?_, fun j hj => ?_, fun l id e => ?_⟩
  · simp [jobs]
  · simp [jobs]
  · simp [jobs]
  · simp [jobs, slots, Slot.isReserved]
  · obtain ⟨m, i, j⟩ := lanes l
    simp [m, i, j]
  · simp [(lanes l).2.1, sites]
  · simp [jobs] at hj
  · simp [(lanes l).2.2] at e

theorem WorkAgrees.restart {s : State} (h : WorkAgrees s) : WorkAgrees (issueRestart s) := by
  refine workAgrees_of_none (jobs_issueRestart s) (slot_issueRestart s) (fun l => ?_) fun k => ?_
  · rw [lane_issueRestart]
    simp only [restartLane]
    split
    · exact ⟨rfl, rfl, rfl⟩
    · rename_i e
      have idle := eq_false_of_ne_true e
      exact ⟨idle, h.attached.idle idle⟩
  · rw [site_issueRestart]
    simp only [restartSite]
    split <;> rfl

theorem workAgrees_resetTo (contact : BitVec 16) (rate : BitVec 2) (s : State) :
    WorkAgrees (resetTo contact rate s) := by
  refine workAgrees_of_none rfl (slot_resetTo contact rate s) (fun l => ?_) fun k => ?_
  · rw [lane_resetTo]
    exact ⟨rfl, rfl, rfl⟩
  · rw [site_resetTo]
    rfl

/-- A slot whose record is held is not RESERVED, before and after its own change. -/
theorem sameWork_setSlot {s : State} {h : Handle} {x : Slot} (before : (s.slot h).isReserved = false)
    (after : x.isReserved = false) : SameWork s (s.setSlot h x) := by
  refine ⟨rfl, fun k => ?_, fun _ => rfl, fun _ => .refl _⟩
  by_cases e : k = h
  · rw [e, slot_setSlot_self, before, after]
  · rw [slot_setSlot_of_ne s x e]

theorem notReserved_of_record {x : Slot} {r : ResultRecord} (h : x.record? = some r) : x.isReserved = false := by
  cases x <;> simp_all [Slot.record?, Slot.isReserved]

theorem sameWork_takeHead {s : State} {h : Handle} {r : ResultRecord} (e : (s.slot h).record? = some r)
    (rest : List Handle) : SameWork s (takeHead h rest r s) :=
  have k : SameWork s (s.setSlot h (.taken r)) := sameWork_setSlot (notReserved_of_record e) rfl
  ⟨k.jobs, k.slots, k.sites, k.lanes⟩

theorem keptByOps_workAgrees : KeptByOps WorkAgrees :=
  KeptByWork.ops ⟨keptByEnds_workAgrees, fun k h => h.same k⟩
    (pairing := fun e h => h.pair (nextPair_mayStart e).1 (nextPair_mayStart e).2)
    (append := fun batch news _ room _ h => h.appendJobs batch news (room_of_hasRoom room))
    (cancel := fun x h => h.cancel x)
    (takeHead := fun _ rest _ _ e h => h.same (sameWork_takeHead e rest))
    (freeSlot := fun k r e h => h.same (sameWork_setSlot (by rw [e]; rfl) rfl))
    (restart := fun h => h.restart)
    (reset := fun contact rate => workAgrees_resetTo contact rate _)

end Sys2Proof.Machine
end

section
/-!
SUPPORT. Two entries of one site are CHECK entries for different lanes (R61): kept by every step, since an end removes an
entry, a requeue and a pairing leave its site and work, and an enqueue has been checked (R63 check 4).
-/
namespace Sys2Proof.Machine

/-- Two entries may stand in one list (R61). -/
def EntriesApart (a b : Job) : Prop := a.site = b.site → ∃ x y, a.work = .check x ∧ b.work = .check y ∧ x ≠ y

theorem EntriesApart.symm {a b : Job} (h : EntriesApart a b) : EntriesApart b a := fun e => by
  obtain ⟨x, y, hx, hy, ne⟩ := h e.symm
  exact ⟨y, x, hy, hx, ne.symm⟩

/-- Entries of the same sites and works stand as well. -/
theorem EntriesApart.congr {a b c d : Job} (h : EntriesApart a b) (hs : c.site = a.site) (hw : c.work = a.work)
    (hs' : d.site = b.site) (hw' : d.work = b.work) : EntriesApart c d := by
  unfold EntriesApart
  rw [hs, hw, hs', hw']
  exact h

theorem entriesFitSites_iff {s : State} : EntriesFitSites s ↔ s.jobs.Pairwise EntriesApart := Iff.rfl

theorem EntriesFitSites.of_sublist {s t : State} (h : EntriesFitSites s) (sub : t.jobs.Sublist s.jobs) :
    EntriesFitSites t := List.Pairwise.sublist sub h

theorem jobs_endInList_sublist (code : TermCode) (s : State) (j : Job) :
    (endInList code s j).jobs.Sublist s.jobs := by
  rw [jobs_endInList]
  exact List.eraseP_sublist

theorem jobs_cancelJob_sublist (s : State) (j : Job) : (cancelJob s j).jobs.Sublist s.jobs := by
  unfold cancelJob
  split
  · exact jobs_endInList_sublist _ s j
  · rw [jobs_endJob]
    exact List.eraseP_sublist

theorem EntriesFitSites.endAll {s : State} (h : EntriesFitSites s) (code : TermCode) (gone : List Job) :
    EntriesFitSites (gone.foldl (endInList code) s) :=
  foldl_keeps EntriesFitSites _ (fun s j h => h.of_sublist (jobs_endInList_sublist code s j)) gone s h

theorem jobs_laneEnd_sublist (l : Lane) (e : EndReport) (dest : LaneState) (s : State) :
    (laneEnd l e dest s).jobs.Sublist s.jobs := by
  unfold laneEnd
  split
  · rw [State.jobs, jc_leave_detach]
    exact .refl _
  · rw [jobs_endJob]
    exact List.eraseP_sublist

theorem EntriesFitSites.giveBack {s : State} (h : EntriesFitSites s) (l : Lane) (cause : RequeueCause)
    (dest : LaneState) : EntriesFitSites (giveBack l cause dest s) := by
  unfold Machine.giveBack
  split
  · refine h.of_sublist ?_
    rw [State.jobs, jc_leave_detach]
    exact .refl _
  · rename_i j some
    split
    · refine h.of_sublist ?_
      rw [jobs_endJob]
      exact List.eraseP_sublist
    · obtain ⟨-, found, -⟩ := laneJob_eq_some some
      have apart : (j :: s.jobs.eraseP fun x => x.id == j.id).Pairwise EntriesApart :=
        ((perm_cons_eraseP found).pairwise_iff fun h => h.symm).1 h
      rw [List.pairwise_cons] at apart
      rw [entriesFitSites_iff, State.jobs, jc_leave_detach]
      show (requeued cause j :: s.jobs.eraseP fun x => x.id == j.id).Pairwise EntriesApart
      exact List.pairwise_cons.2 ⟨fun x hx => (apart.1 x hx).congr (site_requeued cause j) (work_requeued cause j)
        rfl rfl, apart.2⟩

theorem keptByEnds_entriesFitSites : KeptByEnds EntriesFitSites where
  steady k h := h.of_sublist (by rw [k.jobs])
  laneEnd l e dest _ h := h.of_sublist (jobs_laneEnd_sublist l e dest _)
  giveBack l cause dest _ h := h.giveBack l cause dest
  announce _ h := h.endAll _ _
  endChecksOn _ h := h.endAll _ _
  disturbQuad q h := h.of_sublist (by rw [State.jobs, (keepsWork_disturbQuad q _).jc]; exact .refl _)

theorem EntriesFitSites.pair {s : State} (h : EntriesFitSites s) (j : Job) (l : Lane) :
    EntriesFitSites (pair j l s) := by
  have same (x : Job) : (if x.id = j.id then pairedJob l s.now x else x).site = x.site
      ∧ (if x.id = j.id then pairedJob l s.now x else x).work = x.work := by
    split <;> exact ⟨rfl, rfl⟩
  rw [entriesFitSites_iff, jobs_pair, List.pairwise_map]
  exact h.imp fun apart => EntriesApart.congr apart (same _).1 (same _).2 (same _).1 (same _).2

/-- A new job that no entry conflicts with stands apart from each (R63 check 4). -/
theorem apart_of_listRefuses {s : State} {n : NewJob} (h : listRefuses s n = false) {j : Job} (hj : j ∈ s.jobs)
    (same : j.site = n.site) : ∃ x y, j.work = .check x ∧ n.work = .check y ∧ x ≠ y := by
  have free : conflicts n j = false := by
    simp only [listRefuses, List.any_eq_false, Bool.not_eq_true] at h
    exact h j hj
  simp only [conflicts, same, beq_self_eq_true, Bool.true_and] at free
  split at free
  · cases free
  · cases free
  · rename_i a b hn hj
    refine ⟨b, a, hj, hn, fun e => ?_⟩
    simp [e] at free

theorem listRefuses_of_enqueue {s : State} {news : List NewJob} (h : enqueueRefusal s news = none) :
    ∀ n ∈ news, listRefuses s n = false := by
  unfold enqueueRefusal at h
  split at h
  · cases h
  · split at h
    · cases h
    · split at h
      · cases h
      · rename_i none
        simpa using List.find?_eq_none.1 none

/-- Appending jobs that stand apart from the list and from one another keeps the entries apart. -/
theorem EntriesFitSites.appendJobs {s : State} (h : EntriesFitSites s) (batch : Option Nat) {news : List NewJob}
    (fit : NewsFit news) (apart : ∀ n ∈ news, ∀ j ∈ s.jobs, j.site = n.site →
      ∃ x y, j.work = .check x ∧ n.work = .check y ∧ x ≠ y) : EntriesFitSites (appendJobs batch news s) := by
  unfold Machine.appendJobs
  induction news generalizing s with
  | nil => exact h
  | cons n rest ih =>
    rw [NewsFit, List.pairwise_cons] at fit
    cases free : lowestFree s with
    | none =>
      rw [List.foldl_cons, appendJob_of_none free]
      exact ih h fit.2 fun m hm => apart m (List.mem_cons_of_mem _ hm)
    | some k =>
      rw [List.foldl_cons, appendJob_of_free free]
      refine ih ?_ fit.2 fun m hm j hj => ?_
      · show (s.jobs ++ [newEntry batch s n k]).Pairwise EntriesApart
        refine List.pairwise_append.2 ⟨h, List.pairwise_singleton _ _, fun j hj x hx => ?_⟩
        rw [List.mem_singleton.1 hx]
        exact apart n List.mem_cons_self j hj
      · have hj' : j ∈ s.jobs ++ [newEntry batch s n k] := hj
        rcases List.mem_append.1 hj' with hj' | hj'
        · exact apart m (List.mem_cons_of_mem _ hm) j hj'
        · rw [List.mem_singleton.1 hj']
          exact fit.1 m hm

theorem keptByOps_entriesFitSites : KeptByOps EntriesFitSites :=
  KeptByWork.ops ⟨keptByEnds_entriesFitSites, fun k h => h.of_sublist (by rw [k.jobs])⟩
    (pairing := fun _ h => h.pair _ _)
    (append := fun batch news taken _ fit h =>
      h.appendJobs batch fit fun n hn j hj => apart_of_listRefuses (listRefuses_of_enqueue taken n hn) hj)
    (cancel := fun _ h =>
      foldl_keeps EntriesFitSites _ (fun s j h => h.of_sublist (jobs_cancelJob_sublist s j)) _ _ h)
    (takeHead := fun _ _ _ _ _ h => h)
    (freeSlot := fun _ _ _ h => h)
    (restart := fun _ => List.Pairwise.nil)
    (reset := fun _ _ => List.Pairwise.nil)

/-- Two properties that every step keeps are kept together. -/
theorem Kept.and {p q : State → Prop} (hp : Kept p) (hq : Kept q) : Kept fun s => p s ∧ q s :=
  fun s t h e => ⟨hp s t h.1 e, hq s t h.2 e⟩

/-- Settles O58: the agreement of jobs, slots, lanes and sites is kept by every step, and so, on its own, is what R61 says
of the entries of one site. -/
theorem jobsAndAttachmentsKept : Obligations.JobsAndAttachmentsKept := by
  unfold Obligations.JobsAndAttachmentsKept
  intro s t ⟨slots, entries, attached⟩ e
  obtain ⟨work, entries'⟩ :=
    keptByOps_workAgrees.kept.and keptByOps_entriesFitSites.kept s t ⟨⟨slots, attached⟩, entries⟩ e
  exact ⟨work.slots, entries', work.attached⟩

end Sys2Proof.Machine
end

section
/-!
SUPPORT. The settings in range and the stored plans and limit sets valid under them (R22, R41, R46, R48, R154, R169).
-/
namespace Sys2Proof.Machine

/-- The settings stand in their ranges, and what is stored is valid under them. -/
structure TablesFit (s : State) : Prop where
  settings : SettingsInRange s
  stored : StoredPlansValid s

theorem TablesFit.same {s t : State} (h : TablesFit s) (store : t.store = s.store)
    (settings : t.link.settings = s.link.settings) : TablesFit t := by
  refine ⟨?_, ?_⟩
  · unfold SettingsInRange
    rw [settings]
    exact h.settings
  · unfold StoredPlansValid State.plan State.limitSet
    rw [settings, store]
    exact h.stored

theorem TablesFit.rest {s t : State} (h : TablesFit s) (k : KeepsRest s t) : TablesFit t :=
  h.same k.store (congrArg LinkPort.settings k.link)

theorem keptByEnds_tablesFit : KeptByEnds TablesFit where
  steady k h := h.same k.store k.settings
  laneEnd l e dest _ h := h.rest (keepsRest_laneEnd l e dest _)
  giveBack l cause dest _ h := h.rest (keepsRest_giveBack l cause dest _)
  announce i h := h.rest (keepsRest_announce i _)
  endChecksOn l h := h.rest (keepsRest_endChecksOn l _)
  disturbQuad q h := h.rest (keepsRest_disturbQuad q _)

theorem keepsRest_contactRise (i : Site) (s : State) : KeepsRest s (contactRise i s) := by
  simp only [contactRise]
  split
  · split
    · split
      · exact (keepsRest_foldl seat (fun s i => keepsRest_modSite s i _) _ s).trans (keepsRest_claimTogether _ _ _)
      · exact keepsRest_modSite s i _
    · exact keepsRest_modSite s i _
  · exact .rfl

theorem keepsRest_contactFall (i : Site) (s : State) : KeepsRest s (contactFall i s) := by
  have fallen : KeepsRest s (s.modSite i (takeContact false)) := keepsRest_modSite s i _
  simp only [contactFall]
  split
  · split
    case h_1 | h_2 => exact fallen
    case h_3 | h_4 | h_5 => exact (fallen.trans (keepsRest_modSite _ i _)).trans (keepsRest_announce i _)
    case h_6 | h_7 => exact (fallen.trans (keepsRest_switchOff i _ _ _)).trans (keepsRest_announce i _)
  · exact .rfl

theorem keepsRest_enterSite (i : Site) (x : SiteState) (s : State) : KeepsRest s (enterSite i x s) := by
  have moved : KeepsRest s (s.modSite i fun r => { r with state := x }) := keepsRest_modSite s i _
  simp only [enterSite]
  split
  · exact moved.trans (keepsRest_announce i _)
  · exact moved

theorem keepsRest_applySiteMode (i : Site) (e a : Option Bool) (t : Option Nat) (s : State) :
    KeepsRest s (applySiteMode i e a t s).2 := by
  have enabled : KeepsRest s (setEnable i e s) := by
    simp only [setEnable]
    repeat' split
    all_goals first
      | exact .rfl
      | exact keepsRest_enterSite i _ s
  unfold applySiteMode
  split
  · exact .rfl
  · exact enabled.trans (keepsRest_modSite _ i _)

theorem keepsRest_cancelJob (s : State) (j : Job) : KeepsRest s (cancelJob s j) := by
  unfold cancelJob
  split
  · exact keepsRest_endInList _ s j
  · exact keepsRest_endJob _ j _ _ s

/-- A trip touches the Link Port's alerts, never its settings. -/
theorem TablesFit.supplyFaultTrip {s : State} (h : TablesFit s) (i : Site) : TablesFit (supplyFaultTrip i s) := by
  have counted : KeepsRest s (s.modSite i fun r => { r with faults := min 255 (r.faults + 1) }) :=
    keepsRest_modSite s i _
  simp only [Machine.supplyFaultTrip]
  split
  · exact keptByEnds_tablesFit.announce i (keptByEnds_tablesFit.steady
      (steady_onlyLink (onlyLink_raiseSupplyFault i _) rfl)
      (h.rest (counted.trans (keepsRest_switchOff i _ _ _))))
  · exact h

theorem keepsRest_settleExpiry (i : Site) (s : State) : KeepsRest s (settleExpiry i s) := by
  simp only [settleExpiry]
  split
  · exact keepsRest_modSite s i _
  · exact .rfl

/-! ### Writes -/

theorem plan_setPlan (p k : PlanIx) (r : Option Plan) (s : State) :
    (setPlan p r s).plan k = if k = p then r else s.plan k := by
  by_cases e : k = p
  · simp [setPlan, State.plan, e]
  · have e' : (p : Nat) ≠ k := fun z => e (Fin.ext z.symm)
    simp [setPlan, State.plan, e, e']

theorem limitSet_setLimits (x k : LimitIx) (r : Option (List LimitEntry)) (s : State) :
    (setLimits x r s).limitSet k = if k = x then r else s.limitSet k := by
  by_cases e : k = x
  · simp [setLimits, State.limitSet, e]
  · have e' : (x : Nat) ≠ k := fun z => e (Fin.ext z.symm)
    simp [setLimits, State.limitSet, e, e']

theorem TablesFit.setPlan {s : State} (h : TablesFit s) (p : PlanIx) {r : Option Plan}
    (valid : ∀ x ∈ r, planValid s.settings.calPeriod x = true) : TablesFit (setPlan p r s) := by
  refine ⟨h.settings, fun k x e => ?_, h.stored.2⟩
  rw [plan_setPlan] at e
  split at e
  · exact valid x e
  · exact h.stored.1 k x e

theorem TablesFit.setLimits {s : State} (h : TablesFit s) (x : LimitIx) {r : Option (List LimitEntry)}
    (valid : ∀ l ∈ r, limitsValid l = true) : TablesFit (setLimits x r s) := by
  refine ⟨h.settings, h.stored.1, fun k l e => ?_⟩
  rw [limitSet_setLimits] at e
  split at e
  · exact valid l e
  · exact h.stored.2 k l e

/-- A plan stays valid under another CAL_PERIOD that its budget does not exceed twice (R41, R46). -/
theorem planValid_of_budget {a b : Nat} {p : Plan} (h : planValid a p = true) (budget : p.budget ≤ 2 * b) :
    planValid b p = true := by
  unfold planValid at h ⊢
  simp only [Bool.and_eq_true, decide_eq_true_eq] at h ⊢
  exact ⟨⟨h.1.1, h.1.2.1, budget⟩, h.2⟩

/-- No DEFINED plan has a budget above twice a value that CAL_PERIOD may take (R41). -/
theorem budgetAbove_iff {s : State} {v : Nat} :
    budgetAbove s v = true ↔ ∃ p r, s.plan p = some r ∧ 2 * v < r.budget := by
  simp only [budgetAbove, List.any_eq_true, List.mem_finRange, true_and]
  refine exists_congr fun p => ?_
  cases s.plan p <;> simp

theorem TablesFit.setting {s : State} (h : TablesFit s) (x : Setting) (v : Nat)
    (inRange : outOfRange s.settings v x = false) (unused : settingInUse s v x = false) :
    TablesFit (writeSetting x v s) := by
  have range := h.settings
  unfold SettingsInRange at range
  simp only at range
  obtain ⟨cal, cal', quiet, deb, deb', hold, hold', good, order, marginal⟩ := range
  have plans : ∀ p r, s.plan p = some r →
      planValid ((s.link.settings.put v x).calPeriod) r = true := by
    intro p r e
    have valid := h.stored.1 p r e
    cases x
    case calPeriod =>
      have short : ¬ ∃ p r, s.plan p = some r ∧ 2 * v < r.budget := fun b => by
        rw [← budgetAbove_iff] at b
        simp [settingInUse, b] at unused
      exact planValid_of_budget valid (Nat.le_of_not_lt fun b => short ⟨p, r, e, b⟩)
    all_goals exact valid
  refine ⟨?_, plans, h.stored.2⟩
  unfold SettingsInRange
  rw [show s.settings = s.link.settings from rfl] at inRange
  cases x <;>
    simp only [outOfRange, Bool.or_eq_false_iff, decide_eq_false_iff_not, Nat.not_lt, writeSetting,
      link_modLink, Settings.put] at * <;>
    omega

theorem tablesFit_resetTo (contact : BitVec 16) (rate : BitVec 2) (s : State) : TablesFit (resetTo contact rate s) := by
  refine ⟨?_, fun p r e => ?_, fun x l e => ?_⟩
  · have e : (resetTo contact rate s).link.settings = .default := rfl
    unfold SettingsInRange
    rw [e]
    decide
  · simp [resetTo, State.atReset, PlanStore.atReset, State.plan] at e
  · simp [resetTo, State.atReset, PlanStore.atReset, State.limitSet] at e

theorem keptByOps_tablesFit : KeptByOps TablesFit where
  toKeptByEnds := keptByEnds_tablesFit
  contactRise i h := h.rest (keepsRest_contactRise i _)
  contactFall i h := h.rest (keepsRest_contactFall i _)
  supplyFaultTrip i h := h.supplyFaultTrip i
  settleExpiry i h := h.rest (keepsRest_settleExpiry i _)
  siteMode i e a t h := h.rest (keepsRest_applySiteMode i e a t _)
  claim i _ h := h.rest (keepsRest_claimPower i _)
  powerOff i _ h := h.rest (keepsRest_switchOff i _ _ _)
  withdraw i _ h := h.rest (keepsRest_modSite _ i _)
  clear i _ h := h.rest (keepsRest_enterSite i _ _)
  pairing _ h := h.same rfl rfl
  append batch news _ _ _ h := h.rest (keepsRest_appendJobs batch news _)
  cancel _ h := h.rest (keepsRest_foldl _ keepsRest_cancelJob _ _)
  takeHead _ _ _ _ _ h := h.same rfl rfl
  freeSlot _ _ _ h := h.same rfl rfl
  setPlan p _ valid h := h.setPlan p valid
  setLimits x _ valid h := h.setLimits x valid
  boundary _ h := ⟨h.settings, h.stored⟩
  setting x v inRange unused h := h.setting x v inRange unused
  restart h := h.same rfl rfl
  reset contact rate := tablesFit_resetTo contact rate _
  tick _ _ h := h.same rfl rfl

/-- Settles O56: only an accepted SET CONFIG or store write touches the tables, and its checks are the conditions. -/
theorem settingsAndPlansKept : Obligations.SettingsAndPlansKept := by
  unfold Obligations.SettingsAndPlansKept
  intro s t ⟨settings, stored⟩ e
  obtain ⟨settings', stored'⟩ := keptByOps_tablesFit.kept s t ⟨settings, stored⟩ e
  exact ⟨settings', stored'⟩

end Sys2Proof.Machine
end

section
/-!
SUPPORT. No command stops, what the held part does with one, reset, and the invariants at reset (R23, R36, R177, R183).
-/
namespace Sys2Proof.Machine

/-! ### No stop -/

/-- Every command answers a next state. -/
theorem exec_goesOn (i : Instr) (s : State) : ∃ t, exec i s = .next t := by
  cases i <;> exact ⟨_, rfl⟩

/-- Settles O2: each arm of `exec` ends in a next state, and the empty queue idles. -/
theorem noStepStops : Obligations.NoStepStops := by
  unfold Obligations.NoStepStops
  refine ⟨fun _ => rfl, fun s => ?_⟩
  unfold GoesOn step
  split
  · exact ⟨s, rfl⟩
  · exact exec_goesOn _ _

/-! ### The held part (R183) -/

theorem occurs_held {f : State → State} {s : State} (h : s.pins.resetn = false) : occurs f s = .next s := by
  simp [occurs, h]

theorem occurs_running {f : State → State} {s : State} (h : s.pins.resetn = true) : occurs f s = .next (f s) := by
  simp [occurs, h]

theorem receiveByte_held {b : Byte} {setup : Bool} {s : State} (h : s.pins.resetn = false) :
    receiveByte b setup s = s := by
  simp [receiveByte, h]

theorem feed_held {setup : Bool} {bytes : List Byte} {s : State} (h : s.pins.resetn = false) :
    feed setup bytes s = s := by
  induction bytes with
  | nil => rfl
  | cons b rest ih =>
    rw [feed, List.foldl_cons, receiveByte_held h]
    exact ih

theorem taken_held {setup : Bool} {i : Instr} {act : State → Response × State} {s : State}
    (h : s.pins.resetn = false) : taken setup i act s = .next s := by
  simp [taken, request, listening, h, feed_held h]

/-- While RESETn is held, no command but the two of the reset has an effect. -/
theorem exec_held {i : Instr} {s : State} (h : s.pins.resetn = false) (ne : ∀ c r, i ≠ .resetEnd c r)
    (ne' : i ≠ .resetAssert) : exec i s = .next s := by
  cases i
  case resetAssert => exact absurd rfl ne'
  case resetEnd c r => exact absurd rfl (ne c r)
  case receiveByte => exact congrArg Host.Outcome.next (receiveByte_held h)
  all_goals first
    | exact occurs_held h
    | exact taken_held h

theorem site_resetAssert (s : State) (i : Site) :
    (resetAssert s).site i = SiteRecord.atReset (s.pins.contact.getLsbD i.val) := by
  simp only [resetAssert, site_modPins, site_modLink, site_resetTo]

/-- Settles O4: the held state from the reset values, and `exec_held` for every other command. -/
theorem resetHeld : Obligations.ResetHeld := by
  unfold Obligations.ResetHeld
  refine ⟨fun s => ⟨resetAssert s, rfl, rfl, rfl, rfl, fun i => ?_, fun i => ?_, rfl⟩, fun s i h ne ne' => exec_held h ne ne'⟩
  · rw [supplyEn, site_resetAssert]
    rfl
  · rw [injectionClosed, site_resetAssert]
    rfl

/-! ### The end of a reset (R23, R30, R42, R59, R81, R107, R142, R159, R172, R183) -/

theorem resetEnd_held {contact : BitVec 16} {rate : BitVec 2} {s : State} (h : s.pins.resetn = false) :
    resetEnd contact rate s = resetTo contact rate s := by
  simp [resetEnd, h]

theorem quietOf_resetTo (contact : BitVec 16) (rate : BitVec 2) (s : State) (q : Quad) :
    (resetTo contact rate s).quietOf q = .idle := by
  simp [resetTo, State.atReset, State.quietOf]

theorem plan_resetTo (contact : BitVec 16) (rate : BitVec 2) (s : State) (p : PlanIx) :
    (resetTo contact rate s).plan p = none := by
  simp [resetTo, State.atReset, PlanStore.atReset, State.plan]

theorem limitSet_resetTo (contact : BitVec 16) (rate : BitVec 2) (s : State) (x : LimitIx) :
    (resetTo contact rate s).limitSet x = none := by
  simp [resetTo, State.atReset, PlanStore.atReset, State.limitSet]

theorem path_resetTo (contact : BitVec 16) (rate : BitVec 2) (s : State) (i : Site) (l : Lane) :
    (resetTo contact rate s).path i l = .atReset := by
  simp [resetTo, State.atReset, State.path]

/-- The reset flag (bit 0) is in the mask of reset, so ATTN is high (R172). -/
theorem attn_resetTo (contact : BitVec 16) (rate : BitVec 2) (s : State) : attn (resetTo contact rate s) = true := by
  have masked : ((1 : BitVec 6) &&& 0x3F) != 0 := by decide
  have noneFilled : completionPending (resetTo contact rate s) = false := rfl
  simp only [attn, noneFilled, Bool.false_or, Bool.and_eq_true]
  exact ⟨rfl, masked⟩

/-- Settles O3: one lemma for each block's records after `resetTo`. -/
theorem resetEndValues : Obligations.ResetEndValues := by
  unfold Obligations.ResetEndValues
  intro s contact rate held
  refine ⟨resetTo contact rate s, congrArg Host.Outcome.next (resetEnd_held held), fun i => ?_, fun q => ?_,
    ⟨rfl, rfl, rfl, rfl, rfl⟩, plan_resetTo contact rate s, limitSet_resetTo contact rate s, rfl, ⟨rfl, rfl, rfl, rfl⟩,
    fun l => ?_, slot_resetTo contact rate s, rfl, path_resetTo contact rate s,
    ⟨rfl, rfl, rfl, rfl, rfl, rfl, rfl, rfl⟩, rfl, attn_resetTo contact rate s, rfl⟩
  · rw [site_resetTo]
    exact ⟨rfl, rfl, rfl, rfl, rfl, rfl, rfl, rfl, rfl, rfl, rfl, rfl, rfl⟩
  · rw [quietOf_resetTo]
    rfl
  · rw [lane_resetTo]
    exact ⟨rfl, rfl, rfl, rfl, rfl, rfl, rfl, rfl, rfl, rfl, rfl, rfl, rfl, rfl⟩

/-! ### The invariants at reset -/

/-- The state after reset is a reset of itself, with no CONTACT high and RATE 0 (log 8). -/
theorem reset_eq : State.reset = resetTo 0 0 State.reset := rfl

theorem lane_reset (l : Lane) : State.reset.lane l = .atReset := by
  rw [reset_eq, lane_resetTo]

theorem path_reset (i : Site) (l : Lane) : State.reset.path i l = .atReset := by
  rw [reset_eq, path_resetTo]

/-- Settles O5: the site, work and table invariants hold after any reset; the rest is read off the reset values. -/
theorem invariantsHoldAtReset : Obligations.InvariantsHoldAtReset := by
  unfold Obligations.InvariantsHoldAtReset
  have sites : SiteTable State.reset := siteTable_resetTo 0 0 State.reset
  obtain ⟨supply, fields, contact, pending⟩ := siteTable_iff.1 sites
  have work : WorkAgrees State.reset := workAgrees_resetTo 0 0 State.reset
  have tables : TablesFit State.reset := tablesFit_resetTo 0 0 State.reset
  refine ⟨supply, fields, contact, pending, fun l => ?_, fun l => ?_, fun l => ?_, ⟨rfl, rfl⟩, fun l => ?_,
    tables.settings, tables.stored, fun i l => ?_, ⟨rfl, fun e => ?_⟩, ⟨?_, ?_, ?_⟩, work.slots, List.Pairwise.nil,
    ⟨List.nodup_nil, fun h => ?_⟩, work.attached⟩
  · rw [lane_reset]
    exact ⟨by decide, by decide, fun _ => ⟨rfl, by decide⟩⟩
  · rw [lane_reset]
    exact ⟨fun _ => rfl, fun e => by cases e⟩
  · rw [lane_reset]
    exact ⟨rfl, rfl⟩
  · rw [lane_reset]
    trivial
  · rw [path_reset]
    exact ⟨rfl, rfl, rfl⟩
  · cases e
  · exact fun ne => absurd rfl ne
  · exact fun ne => absurd rfl ne
  · exact fun ne => absurd rfl ne
  · rw [reset_eq, slot_resetTo]
    simp [resetTo, State.atReset, ResultStore.atReset, Slot.isFilled]

end Sys2Proof.Machine
end

section
/-!
SUPPORT. What each request of the sites, the settings and the queries answers, and RESTART (R17 to R22, R40, R53, R56, R80,
R171, R182, R188).
-/
namespace Sys2Proof.Machine

/-- A request of a tag, taken, leaves its owner's answer pending: the owner sees the state with the follow context ended. -/
theorem request_answers {i : Instr} {act : State → Response × State} {s t : State} {kind tag rk : Byte}
    {rest : List Byte} {x : Status} {data : ReplyData} (ht : Takes s) (ha : act (setFollow none s) = (⟨x, data⟩, t))
    (hx : x ≠ .badKind := by decide) (he : exec i s = taken s.pins.setup i act s := by rfl)
    (hb : requestBody i = kind :: tag :: rest := by rfl) (hk : kind ≠ nextKind := by decide)
    (hr : kind ||| 0x80 = rk := by decide) : exec i s = .next (replied rk tag x data t) :=
  he.trans (taken_eq ht hb hk hr hx (by rwa [setSetup_same]))

theorem siteOf?_val (i : Site) : siteOf? i.val = some i := by simp [siteOf?]
theorem siteOf?_none {n : Nat} (h : 16 ≤ n) : siteOf? n = none := by simp [siteOf?, h]
theorem laneOf?_val (l : Lane) : laneOf? l.val = some l := by simp [laneOf?]
theorem laneOf?_none {n : Nat} (h : 4 ≤ n) : laneOf? n = none := by simp [laneOf?, h]
theorem planOf?_val (p : PlanIx) : planOf? p.val = some p := by simp [planOf?]
theorem planOf?_none {n : Nat} (h : 24 ≤ n) : planOf? n = none := by simp [planOf?, h]
theorem limitOf?_val (x : LimitIx) : limitOf? x.val = some x := by simp [limitOf?]
theorem limitOf?_none {n : Nat} (h : 16 ≤ n) : limitOf? n = none := by simp [limitOf?, h]

/-! ### Queries -/

/-- The reply of one site is one segment (R171). -/
theorem pathsReply_one (s : State) (i : Site) : pathsReply s [i] = okSegments
    [be8 4 ++ be16 (if hasUsablePath s i then 2 ^ i.val else 0)
      ++ (allLanes.map fun l => pathBytes i l (s.path i l)).flatten] := by
  have items : ([i] : List Site).flatMap (sitePathItems s) = allLanes.map fun l => pathBytes i l (s.path i l) := by
    simp [sitePathItems]
  have mask : usableMask s [i] = if hasUsablePath s i then 2 ^ i.val else 0 := by simp [usableMask]
  simp only [pathsReply, items, mask]
  rfl

/-- The reply of all sites counts 64 entries (R171, R198). -/
theorem pathsReply_all (s : State) : pathsReply s allSites = okSegments
    (segmented (be8 64 ++ be16 (usableMask s allSites)) 8 (allSites.flatMap (sitePathItems s))) := by
  have count : (allSites.flatMap (sitePathItems s)).length = 64 := by
    simp [sitePathItems, allSites, allLanes]
  simp only [pathsReply, count]

/-- Settles O17: each query's owner answers from the record and changes nothing. -/
theorem queriesReportAndKeep : Obligations.QueriesReportAndKeep := by
  unfold Obligations.QueriesReportAndKeep
  refine ⟨fun s tag ht => ⟨request_answers ht ?_, fun n h => request_answers ht ?_, fun l => request_answers ht ?_,
      request_answers ht ?_, fun n h => request_answers ht ?_, fun i => request_answers ht ?_,
      request_answers ht ?_⟩,
    fun s tag ht => ⟨fun n h => request_answers ht ?_, fun p e => request_answers ht ?_,
      fun p r e => request_answers ht ?_, fun n h => request_answers ht ?_, fun x e => request_answers ht ?_,
      fun x l e => request_answers ht ?_⟩⟩
  · rfl
  · rw [reqQueryLane, laneOf?_none h]
    rfl
  · rw [reqQueryLane, laneOf?_val]
    rfl
  · rfl
  · rw [reqQueryPaths, optional?, siteOf?_none h]
    rfl
  · rw [reqQueryPaths, optional?, siteOf?_val]
    simp only [Option.map_some, pathsReply_one]
    rfl
  · simp only [reqQueryPaths, optional?, pathsReply_all]
    rfl
  · rw [reqReadPlan, planOf?_none h]
    rfl
  · have e' : (setFollow none s).plan p = none := e
    rw [reqReadPlan, planOf?_val]
    simp only [e']
    rfl
  · have e' : (setFollow none s).plan p = some r := e
    rw [reqReadPlan, planOf?_val]
    simp only [e']
    rfl
  · rw [reqReadLimits, limitOf?_none h]
    rfl
  · have e' : (setFollow none s).limitSet x = none := e
    rw [reqReadLimits, limitOf?_val]
    simp only [e']
    rfl
  · have e' : (setFollow none s).limitSet x = some l := e
    rw [reqReadLimits, limitOf?_val]
    simp only [e']
    rfl

/-! ### POWER and CLEAR SITE (R18 to R20) -/

theorem reqPowerOn_bad {n : Nat} (h : 16 ≤ n) (s : State) : reqPowerOn n s = (refuse .badField, s) := by
  rw [reqPowerOn, siteOf?_none h]

/-- POWER ON of a site, by its state. -/
theorem reqPowerOn_val (i : Site) (s : State) : reqPowerOn i.val s =
    match (s.site i).state with
    | .seated => (okWith (if quadAttached s (quadOf i) then [1] else [0]), claimPower i s)
    | .powerPending | .settling | .ready => (okWith [2], s)
    | .vacant | .disabled | .fault => (refuse .state, s) := by
  rw [reqPowerOn, siteOf?_val]
  rfl

theorem claimPower_free {i : Site} {s : State} (h : quadAttached s (quadOf i) = false) :
    claimPower i s = switchOn (quadOf i) [i] s := by
  simp [claimPower, claimTogether, h]

theorem claimPower_attached {i : Site} {s : State} (h : quadAttached s (quadOf i) = true) :
    claimPower i s = s.modSite i fun r => { r with state := .powerPending } := by
  simp [claimPower, claimTogether, h]

theorem reloadSettle_eq (r : SiteRecord) :
    reloadSettle r = if r.state = .settling then { r with settle := ⟨r.settleTicks, false⟩ } else r := rfl

/-- A reload of a quad's settle countdowns at one site, by conditions on the site. -/
theorem reload_eq (q : Quad) (s : State) (k : Site) :
    (if quadOf k = q then reloadSettle (s.site k) else s.site k) =
      if quadOf k = q ∧ (s.site k).state = .settling then
        { s.site k with settle := ⟨(s.site k).settleTicks, false⟩ }
      else s.site k := by
  by_cases h : quadOf k = q
  · simp [h, reloadSettle_eq]
  · simp [h]

/-- Settles O14: POWER ON by the site's state; the switch-on by `site_switchOn`. -/
theorem powerOnByState : Obligations.PowerOnByState := by
  unfold Obligations.PowerOnByState
  refine ⟨fun s tag site ht => ⟨fun h => request_answers ht (reqPowerOn_bad h _), ?_⟩, fun s i => ?_⟩
  · rintro i rfl
    have answer := reqPowerOn_val i (setFollow none s)
    rw [show (setFollow none s).site i = s.site i from rfl] at answer
    split <;> rename_i e <;> rw [e] at answer
    · refine ⟨fun h => request_answers ht (answer.trans ?_), fun h => request_answers ht (answer.trans ?_)⟩
      · have h' : quadAttached (setFollow none s) (quadOf i) = false := h
        rw [claimPower_free h', h']
        rfl
      · have h' : quadAttached (setFollow none s) (quadOf i) = true := h
        rw [claimPower_attached h', h']
        rfl
    all_goals exact request_answers ht answer
  · have once := List.nodup_singleton i
    refine ⟨?_, ?_, fun k ne => ?_, fun q ne => ?_, switchOn_eq _ _ _⟩
    · rw [site_switchOn once, if_pos (List.mem_singleton_self i)]
      rfl
    · rw [quietOf_switchOn, if_pos rfl]
      rfl
    · rw [site_switchOn once, if_neg (by simpa using ne), reload_eq]
    · rw [quietOf_switchOn, if_neg ne]

theorem reqPowerOff_bad {n : Nat} (h : 16 ≤ n) (s : State) : reqPowerOff n s = (refuse .badField, s) := by
  rw [reqPowerOff, siteOf?_none h]

/-- POWER OFF of a site, by its state. -/
theorem reqPowerOff_val (i : Site) (s : State) : reqPowerOff i.val s =
    match (s.site i).state with
    | .settling | .ready => (okWith [0], switchOff i .seated .powerOff s)
    | .powerPending => (okWith [2], s.modSite i fun r => { r with state := .seated })
    | .disabled | .vacant | .seated | .fault => (okWith [2], s) := by
  rw [reqPowerOff, siteOf?_val]
  rfl

theorem reqClearSite_bad {n : Nat} (h : 16 ≤ n) (s : State) : reqClearSite n s = (refuse .badField, s) := by
  rw [reqClearSite, siteOf?_none h]

/-- CLEAR SITE of a site: only in FAULT. -/
theorem reqClearSite_val (i : Site) (s : State) : reqClearSite i.val s =
    if (s.site i).state = .fault then
      (okWith (be8 (restingState (s.site i).contact).code), enterSite i (restingState (s.site i).contact) s)
    else (refuse .state, s) := by
  rw [reqClearSite, siteOf?_val]

theorem enterSite_seated (i : Site) (s : State) :
    enterSite i .seated s = s.modSite i fun r => { r with state := .seated } := by simp [enterSite]

theorem enterSite_vacant (i : Site) (s : State) :
    enterSite i .vacant s = announce i (s.modSite i fun r => { r with state := .vacant }) := by simp [enterSite]

theorem enterSite_disabled (i : Site) (s : State) :
    enterSite i .disabled s = announce i (s.modSite i fun r => { r with state := .disabled }) := by simp [enterSite]

/-- Settles O15: POWER OFF by the site's state, CLEAR SITE in FAULT by its contact. -/
theorem powerOffAndClearSite : Obligations.PowerOffAndClearSite := by
  unfold Obligations.PowerOffAndClearSite
  refine ⟨fun s tag site ht => ⟨fun h => request_answers ht (reqPowerOff_bad h _), ?_⟩,
    fun s tag site ht => ⟨fun h => request_answers ht (reqClearSite_bad h _), ?_⟩⟩
  · rintro i rfl
    have answer := reqPowerOff_val i (setFollow none s)
    rw [show (setFollow none s).site i = s.site i from rfl] at answer
    split <;> rename_i e <;> rw [e] at answer
    all_goals exact request_answers ht answer
  · rintro i rfl
    have answer := reqClearSite_val i (setFollow none s)
    rw [show (setFollow none s).site i = s.site i from rfl] at answer
    refine ⟨fun e => ?_, fun e c => ?_, fun e c => ?_⟩
    · rw [if_neg e] at answer
      exact request_answers ht answer
    · rw [if_pos e, c, show restingState true = .seated from rfl, enterSite_seated] at answer
      exact request_answers ht answer
    · rw [if_pos e, c, show restingState false = .vacant from rfl, enterSite_vacant] at answer
      exact request_answers ht answer

/-! ### SITE MODE (R17) -/

theorem modSite_same {s : State} {i : Site} {f : SiteRecord → SiteRecord} (h : f (s.site i) = s.site i) :
    s.modSite i f = s := by
  have e : s.sites.set i (f s.sites[i]) = s.sites := by
    rw [show f s.sites[i] = s.sites[i] from h]
    simp
  rw [State.modSite, e]

theorem modSite_modSite (s : State) (i : Site) (f g : SiteRecord → SiteRecord) :
    (s.modSite i f).modSite i g = s.modSite i fun r => g (f r) := by
  simp [State.modSite]

/-- A flag field reads as its bit, or not at all. -/
theorem flagOf?_eq (n : Nat) : flagOf? n = if n < 2 then some (n == 1) else none := by
  unfold flagOf?
  split
  · rename_i e; simp [e]
  · split
    · rename_i e; simp [e]
    · rw [if_neg (by omega)]

theorem optional?_flag (o : Option Nat) :
    optional? flagOf? o = if ∃ n ∈ o, 2 ≤ n then none else some (o.map (· == 1)) := by
  cases o with
  | none => simp [optional?]
  | some n =>
    rw [optional?, flagOf?_eq]
    by_cases h : n < 2
    · rw [if_pos h, if_neg (by simpa using h)]
      rfl
    · rw [if_neg h, if_pos ⟨n, rfl, Nat.le_of_not_lt h⟩]
      rfl

theorem optional?_settle (o : Option Nat) :
    optional? settleOf? o = if ∃ n ∈ o, n < 1 ∨ 5000 < n then none else some o := by
  cases o with
  | none => simp [optional?]
  | some n =>
    rw [optional?, settleOf?]
    by_cases h : 1 ≤ n ∧ n ≤ 5000
    · rw [if_pos h, if_neg (by simp; omega)]
      rfl
    · rw [if_neg h, if_pos (by simp; omega)]
      rfl

/-- A field of SITE MODE is out of range (R17). -/
def siteModeBad (site : Nat) (enable autopower settle : Option Nat) : Prop :=
  16 ≤ site ∨ (∃ n ∈ enable, 2 ≤ n) ∨ (∃ n ∈ autopower, 2 ≤ n) ∨ ∃ n ∈ settle, n < 1 ∨ 5000 < n

theorem reqSiteMode_bad {site : Nat} {enable autopower settle : Option Nat}
    (h : siteModeBad site enable autopower settle) (s : State) :
    reqSiteMode site enable autopower settle s = (refuse .badField, s) := by
  rw [reqSiteMode]
  rcases h with h | h | h | h
  · rw [siteOf?_none h]
  · rw [optional?_flag enable, if_pos h]
    split <;> simp_all
  · rw [optional?_flag autopower, if_pos h]
    split <;> simp_all
  · rw [optional?_settle settle, if_pos h]
    split <;> simp_all

theorem reqSiteMode_good {i : Site} {enable autopower settle : Option Nat}
    (h : ¬ siteModeBad i.val enable autopower settle) (s : State) :
    reqSiteMode i.val enable autopower settle s =
      applySiteMode i (enable.map (· == 1)) (autopower.map (· == 1)) settle s := by
  simp only [siteModeBad, not_or] at h
  obtain ⟨-, he, ha, hs⟩ := h
  rw [reqSiteMode, siteOf?_val, optional?_flag, optional?_flag, optional?_settle, if_neg he, if_neg ha, if_neg hs]

/-- A site that does not take DISABLE (R17). -/
def keepsEnabled (r : SiteRecord) : Prop :=
  r.state = .powerPending ∨ r.state = .settling ∨ r.state = .ready ∨ (r.state ≠ .disabled ∧ r.attachedLane ≠ none)

theorem mayDisable_iff (r : SiteRecord) : mayDisable r = true ↔ ¬ keepsEnabled r := by
  unfold mayDisable keepsEnabled
  cases r.state <;> simp

/-- The state a site goes to by the enable field (R17). -/
def siteModeState (enable : Option Nat) (r : SiteRecord) : SiteState :=
  if enable = some 0 then .disabled
  else if enable = some 1 ∧ r.state = .disabled then restingState r.contact
  else r.state

/-- The enable field moves the site, and announces a move into VACANT or DISABLED (R15, R17). -/
theorem setEnable_eq {i : Site} {enable : Option Nat} (h : ¬ ∃ n ∈ enable, 2 ≤ n) (s : State) :
    setEnable i (enable.map (· == 1)) s =
      let x := siteModeState enable (s.site i)
      let u := s.modSite i fun r => { r with state := x }
      if x ≠ (s.site i).state ∧ (x = .vacant ∨ x = .disabled) then announce i u else u := by
  have still : s.modSite i (fun r => { r with state := (s.site i).state }) = s := modSite_same rfl
  cases enable with
  | none => simp [setEnable, siteModeState, still]
  | some n =>
    have small : n < 2 := by simpa using h
    have zero_or_one : n = 0 ∨ n = 1 := by omega
    rcases zero_or_one with rfl | rfl
    · by_cases d : (s.site i).state = .disabled
      · rw [d] at still
        simp [setEnable, siteModeState, d, still]
      · simp [setEnable, siteModeState, d, Ne.symm d, enterSite_disabled]
    · by_cases d : (s.site i).state = .disabled
      · cases c : (s.site i).contact <;>
          simp [setEnable, siteModeState, d, c, restingState, enterSite_vacant, enterSite_seated]
      · simp [setEnable, siteModeState, d, still]

/-- An announcement changes no site's state. -/
theorem state_announce (i k : Site) (s : State) : ((announce i s).site k).state = (s.site k).state := by
  rw [onlyNotices_announce i s k]

/-- Settles O13: fields by their ranges, then the DISABLE check, then `setEnable_eq` with the other fields. -/
theorem siteModeApplies : Obligations.SiteModeApplies := by
  unfold Obligations.SiteModeApplies
  intro s tag site enable autopower settle ht
  refine ⟨fun bad => request_answers ht (reqSiteMode_bad bad _), fun good => ?_⟩
  rintro i rfl
  have answer := reqSiteMode_good (i := i) good (setFollow none s)
  have small : ¬ ∃ n ∈ enable, 2 ≤ n := fun h => good (.inr (.inl h))
  have disables : enable.map (· == 1) = some false ↔ enable = some 0 := by
    cases enable with
    | none => simp
    | some n =>
      have : n < 2 := by simpa using small
      simp
      omega
  have refused : enable.map (· == 1) = some false ∧ (!mayDisable ((setFollow none s).site i)) = true
      ↔ enable = some 0 ∧ keepsEnabled (s.site i) := by
    rw [disables, Bool.not_eq_true', Bool.eq_false_iff, ne_eq, mayDisable_iff, not_not]
    rfl
  refine ⟨fun held => ?_, fun free => ?_⟩
  · rw [applySiteMode, if_pos (refused.2 held)] at answer
    exact request_answers ht answer
  · rw [applySiteMode, if_neg (fun c => free (refused.1 c)), setEnable_eq small] at answer
    refine request_answers ht (answer.trans ?_)
    rw [show (setFollow none s).site i = s.site i from rfl]
    by_cases moved : siteModeState enable (s.site i) ≠ (s.site i).state ∧
        (siteModeState enable (s.site i) = .vacant ∨ siteModeState enable (s.site i) = .disabled)
    · simp only [if_pos moved, site_modSite_self, setSiteFields, state_announce]
      exact congrArg (Prod.mk _) (congrArg (State.modSite · i _) (if_pos moved).symm)
    · simp only [if_neg moved, site_modSite_self, setSiteFields]
      exact congrArg (Prod.mk _) (congrArg (State.modSite · i _) (if_neg moved).symm)

/-! ### SET CONFIG (R188) -/

theorem reqSetConfig_unknown {n : Nat} (h : 8 ≤ n) (v : Nat) (s : State) :
    reqSetConfig n v s = (refuse .badField, s) := by
  have e : settingOf? n = none := by
    unfold settingOf?
    split <;> first | omega | rfl
  rw [reqSetConfig, e]

theorem settingOf?_code (x : Setting) : settingOf? x.code = some x := by cases x <;> rfl

theorem reqSetConfig_bad {x : Setting} {v : Nat} {s : State} (h : outOfRange s.settings v x = true) :
    reqSetConfig x.code v s = (refuse .badField, s) := by
  simp [reqSetConfig, settingOf?_code, h]

theorem reqSetConfig_used {x : Setting} {v : Nat} {s : State} (h : outOfRange s.settings v x = false)
    (used : settingInUse s v x = true) : reqSetConfig x.code v s = (refuse .inUse, s) := by
  simp [reqSetConfig, settingOf?_code, h, used]

theorem reqSetConfig_put {x : Setting} {v : Nat} {s : State} (h : outOfRange s.settings v x = false)
    (free : settingInUse s v x = false) (held : (s.settings.put v x).get x = v) :
    reqSetConfig x.code v s = (okWith (be8 x.code ++ be32 v), writeSetting x v s) := by
  have e : (writeSetting x v s).settings.get x = v := held
  simp [reqSetConfig, settingOf?_code, h, free, settingReply, e]

/-- Settles O40: each setting by its own range and refusal, one lemma for each outcome. -/
theorem setConfigByOwner : Obligations.SetConfigByOwner := by
  unfold Obligations.SetConfigByOwner
  intro s tag v ht _ x bad used put tooLong
  have isBad (y : Setting) (h : outOfRange x v y = true) : bad y.code :=
    request_answers ht (reqSetConfig_bad (s := setFollow none s) h)
  have isUsed (y : Setting) (h : outOfRange x v y = false) (u : settingInUse s v y = true) : used y.code :=
    request_answers ht (reqSetConfig_used (s := setFollow none s) h u)
  have isPut (y : Setting) (h : outOfRange x v y = false) (u : settingInUse s v y = false)
      (held : (x.put v y).get y = v) : put y.code (x.put v y) :=
    request_answers ht (reqSetConfig_put (s := setFollow none s) h u held)
  have long : tooLong ↔ settingInUse s v .calPeriod = true := budgetAbove_iff.symm
  refine ⟨fun n h => request_answers ht (reqSetConfig_unknown h v _), fun h => isBad .calPeriod ?_,
    fun h h' u => isUsed .calPeriod ?_ (long.1 u), fun h h' u => isPut .calPeriod ?_ ?short rfl,
    fun h => isBad .quietWindow ?_, fun h => isPut .quietWindow ?_ rfl rfl,
    fun h => isBad .debounce ?_, fun h h' => isPut .debounce ?_ rfl rfl,
    fun h => isBad .holdLimit ?_, fun h h' => isPut .holdLimit ?_ rfl rfl,
    fun h => isBad .floorGood ?_, fun h h' h'' => isPut .floorGood ?_ rfl rfl,
    fun h => isBad .floorMarginal ?_, fun h h' => isPut .floorMarginal ?_ rfl rfl,
    fun h => isBad .requireChecked ?_, fun h u => isUsed .requireChecked ?_ ?listed,
    fun h u => isPut .requireChecked ?_ ?unlisted ?flag, fun h => isBad .alertMask ?_,
    fun h => isPut .alertMask ?_ rfl ?mask⟩
  case short => exact eq_false_of_ne_true fun c => u (long.2 c)
  case listed => simpa [settingInUse] using u
  case unlisted => simp [settingInUse, u]
  case flag =>
    have zero_or_one : v = 0 ∨ v = 1 := by omega
    rcases zero_or_one with rfl | rfl <;> rfl
  case mask => simp [Settings.put, Settings.get, Nat.mod_eq_of_lt (show v < 64 by omega)]
  all_goals
    simp only [outOfRange, Bool.or_eq_true, Bool.or_eq_false_iff, decide_eq_true_eq, decide_eq_false_iff_not]
    clear isBad isUsed isPut long
    omega

/-! ### RESTART (R182) -/

theorem quietOf_mapQuiet_self (s : State) (f : Quad → Countdown → Countdown) (q : Quad) :
    (s.mapQuiet f).quietOf q = f q (s.quietOf q) := by
  simp [State.quietOf]

theorem quadPowered_iff {s : State} {q : Quad} :
    quadPowered s q = true ↔ ∃ i, quadOf i = q ∧ (s.site i).supply = true := by
  simp [quadPowered, mem_quadSites]

theorem quietOf_issueRestart (s : State) (q : Quad) : (issueRestart s).quietOf q =
    if quadPowered s q then .load s.settings.quietWindow else s.quietOf q := by
  simp only [issueRestart, raiseAlert, restartSites, quietOf_modLink, quietOf_modResults, quietOf_setJobs,
    quietOf_mapLanes, quietOf_mapSites, quietOf_mapQuiet_self]

theorem restartLane_eq (c : LaneContext) : restartLane c =
    { c with
      state := if isMeasuring c.state then .idle else c.state
      run := if isMeasuring c.state then RunState.idle else c.run
      hold := false
      holdLeft := ⟨0, false⟩
      latch := none } := by
  simp only [restartLane]
  split <;> rfl

theorem pins_issueRestart (s : State) : (issueRestart s).pins = s.pins := by
  simp [issueRestart, raiseAlert, restartSites]

theorem link_issueRestart (s : State) : (issueRestart s).link =
    { s.link with reply := none, restartOwed := false, busy := ⟨10, false⟩, follow := none, alerts := ⟨1, 0, 0, 0⟩ } := by
  have onlyRestarted : (0 : BitVec 6) ||| alertBit .restarted = 1 := by decide
  simp [issueRestart, raiseAlert, restartSites, State.modLink, restartLink, Alerts.clear, Countdown.load,
    Config.busyTicks, ← onlyRestarted]

theorem pending_issueRestart (s : State) : (issueRestart s).pending = s.pending := by
  simp [issueRestart, raiseAlert, restartSites]

theorem laneOrder_issueRestart (s : State) : (issueRestart s).laneOrder = s.laneOrder := by
  simp [issueRestart, raiseAlert, restartSites]

theorem free_issueRestart (s : State) : (issueRestart s).free = s.free := by
  simp [issueRestart, raiseAlert, restartSites]

/-- Settles O12: RESTART owes the restart, and the end of its reply issues it at every block. -/
theorem restartTakesEffect : Obligations.RestartTakesEffect := by
  unfold Obligations.RestartTakesEffect
  refine ⟨fun s tag ht => request_answers ht (act := reqRestart) rfl, fun s running => ⟨fun owes => ⟨?_, ?_⟩, fun owes =>
    ⟨issueRestart s, ?_, ?_, rfl, rfl, slot_issueRestart s, rfl, fun l => ?_, fun i => ?_, fun q => ?_, link_issueRestart s, rfl, rfl,
      rfl, pins_issueRestart s, pending_issueRestart s, laneOrder_issueRestart s, free_issueRestart s⟩⟩⟩
  · refine (occurs_running running).trans (congrArg Host.Outcome.next ?_)
    simp [replyComplete, owes, State.modLink]
  · refine (occurs_running running).trans (congrArg Host.Outcome.next ?_)
    simp [restartIssue, owes]
  · refine (occurs_running running).trans (congrArg Host.Outcome.next ?_)
    simp [replyComplete, owes]
  · refine (occurs_running running).trans (congrArg Host.Outcome.next ?_)
    simp [restartIssue, owes]
  · rw [lane_issueRestart, restartLane_eq]
  · rw [site_issueRestart]
    generalize s.site i = r
    obtain ⟨state⟩ := r
    cases state <;> rfl
  · rw [quietOf_issueRestart]
    simp only [quadPowered_iff]
    rfl

/-! ### Countdowns (R10, R11, R151, R182) -/

/-- Settles O43: each expiry's row, where its countdown is due. -/
theorem countdownsExpire : Obligations.CountdownsExpire := by
  unfold Obligations.CountdownsExpire
  intro s running
  refine ⟨fun i settling due => ?_, fun q due => ?_, fun due => ?_, fun l hold due => ?_⟩
  all_goals refine (occurs_running running).trans (congrArg Host.Outcome.next ?_)
  · simp only [settleExpiry, settling, due, and_self, if_true]
    rfl
  · simp only [quietExpiry, due, if_true]
    rfl
  · simp only [restartBusyWindowEnd, due, if_true]
    rfl
  · simp only [holdExpiry, hold, due, Bool.and_self, if_true]
    rfl

end Sys2Proof.Machine
end

section
/-!
SUPPORT. Deposits and ends in the list, field by field (R16, R74, R76, R126 to R135).
-/
namespace Sys2Proof.Machine

/-! ### What ends and requeues leave -/

/-- Of the job controller only the list changes, and what is no work's stays. -/
structure OnlyWork (s t : State) : Prop where
  rest : KeepsRest s t
  jc : t.jc = { s.jc with jobs := t.jobs }

theorem OnlyWork.rfl {s : State} : OnlyWork s s := ⟨.rfl, Eq.refl _⟩

theorem OnlyWork.trans {s t u : State} (h : OnlyWork s t) (k : OnlyWork t u) : OnlyWork s u :=
  ⟨h.rest.trans k.rest, by rw [k.jc, h.jc]⟩

theorem OnlyWork.eq {s t : State} (h : OnlyWork s t) :
    t = { s with sites := t.sites, quiet := t.quiet, jc := { s.jc with jobs := t.jobs }, lanes := t.lanes,
                 results := t.results, paths := t.paths } := by
  obtain ⟨⟨ref, store, link, pins, laneOrder, free, pending⟩, jc⟩ := h
  rw [← jc, ← ref, ← store, ← link, ← pins, ← laneOrder, ← free, ← pending]

theorem onlyWork_of_jc {s t : State} (rest : KeepsRest s t) (jc : t.jc = s.jc) : OnlyWork s t :=
  ⟨rest, by rw [State.jobs, jc]⟩

theorem onlyWork_removeJob (id : Nat) (s : State) : OnlyWork s (removeJob id s) := ⟨keepsRest_removeJob id s, rfl⟩

theorem onlyWork_deposit (j : Job) (d : Deposit) (s : State) : OnlyWork s (deposit j d s) :=
  onlyWork_of_jc (keepsRest_deposit j d s) (jc_deposit j d s)

theorem onlyWork_endInList (code : TermCode) (s : State) (j : Job) : OnlyWork s (endInList code s j) :=
  (onlyWork_removeJob j.id s).trans (onlyWork_deposit j _ _)

/-! ### The deposit (R16, R126 to R135) -/

/-- A MEASURE job's site takes the notice; no other site changes (R16). -/
theorem site_deposit_measure {j : Job} (m : j.work.kind = .measure) (d : Deposit) (s : State) (k : Site) :
    (deposit j d s).site k =
      if k = j.site then takeNotice j.id (classOf d.code) ((verdictOf s j.work d).map (·.bin)) (s.site k)
      else s.site k := by
  simp only [deposit]
  cases w : j.work with
  | measure p => simp [site_modSite, recordOf, w]
  | check l => rw [w] at m; cases m

theorem sites_deposit_check {j : Job} {l : Lane} (c : j.work = .check l) (d : Deposit) (s : State) :
    (deposit j d s).sites = s.sites := by
  simp only [deposit, c]
  rfl

theorem site_deposit_of_ne {j : Job} {k : Site} (h : k ≠ j.site) (d : Deposit) (s : State) :
    (deposit j d s).site k = s.site k := by
  cases w : j.work with
  | measure p => rw [site_deposit_measure (by rw [w]; rfl), if_neg h]
  | check l => exact site_of_sites (sites_deposit_check w d s) k

theorem deposit_eq (j : Job) (d : Deposit) (s : State) :
    deposit j d s = { s with sites := (deposit j d s).sites, results := (deposit j d s).results } := by
  simp only [deposit]
  cases j.work <;> rfl

/-! ### The verdict (R131, R132) -/

theorem namedLimits_of {s : State} {p : PlanIx} {plan : Plan} {x : LimitIx} (hp : s.plan p = some plan)
    (hx : plan.limitSet = some x.val) : namedLimits s p = s.limitSet x := by
  simp [namedLimits, hp, hx, limitOf?_val]

/-- No limits are found where every set that the plan names is not DEFINED. -/
theorem namedLimits_of_none {s : State} {p : PlanIx}
    (h : ∀ plan (x : LimitIx), s.plan p = some plan → plan.limitSet = some x.val → s.limitSet x = none) :
    namedLimits s p = none := by
  unfold namedLimits
  cases hp : s.plan p with
  | none => rfl
  | some plan =>
    cases hn : plan.limitSet with
    | none => simp [hn]
    | some n =>
      by_cases small : n < 16
      · simp [hn, limitOf?, small, h plan ⟨n, small⟩ hp hn]
      · simp [hn, limitOf?, small]

theorem verdictOf_interrupted {s : State} {w : Work} {d : Deposit} (h : classOf d.code = .interrupted) :
    verdictOf s w d = none := by
  simp [verdictOf, h]

theorem verdictOf_check (s : State) (l : Lane) (d : Deposit) : verdictOf s (.check l) d = none := by
  simp [verdictOf]

theorem verdictOf_abnormal {s : State} {w : Work} {d : Deposit} (m : w.kind = .measure)
    (h : classOf d.code = .abnormal) : verdictOf s w d = some ⟨7, none, 0⟩ := by
  cases w with
  | measure p => simp [verdictOf, h]
  | check l => cases m

theorem verdictOf_normal (s : State) (p : PlanIx) {d : Deposit} (h : classOf d.code = .normal) :
    verdictOf s (.measure p) d = (namedLimits s p).map (judge d) := by
  simp [verdictOf, h]

/-- Settles O30: the record of `recordOf`, its verdict by the class of the code, and the notice at the site. -/
theorem depositFillsSlot : Obligations.DepositFillsSlot := by
  unfold Obligations.DepositFillsSlot
  intro s j d
  refine ⟨⟨recordOf s j d, ?_, rfl, rfl, rfl, rfl, rfl, rfl, rfl, rfl, rfl, rfl, rfl, rfl, rfl, rfl, rfl,
    fun l c => ⟨?_, ?_, sites_deposit_check c d s⟩, verdictOf_interrupted, verdictOf_abnormal,
    fun p w normal => ⟨fun plan x entries hp hx he => ?_, fun h => ?_⟩, fun m => ?_⟩,
    congrArg ResultStore.queue (results_deposit j d s), fun h ne => ?_, fun k ne => site_deposit_of_ne ne d s,
    deposit_eq j d s⟩
  · rw [slot_deposit, if_pos rfl]
  · rw [recordOf, c, verdictOf_check]
  · rw [recordOf, c]
  · rw [recordOf, w, verdictOf_normal s p normal, namedLimits_of hp hx, he]
    rfl
  · rw [recordOf, w, verdictOf_normal s p normal, namedLimits_of_none h]
    rfl
  · rw [site_deposit_measure m, if_pos rfl]
    simp only [recordOf, takeNotice]
    cases verdictOf s j.work d <;> rfl
  · rw [slot_deposit, if_neg ne]

end Sys2Proof.Machine
end

section
/-!
SUPPORT. The ends in the list that one announcement brings, taken together (R15, R74, R76).
-/
namespace Sys2Proof.Machine

theorem queue_endInList (code : TermCode) (s : State) (j : Job) :
    (endInList code s j).results.queue = s.results.queue ++ [j.handle] :=
  congrArg ResultStore.queue (results_deposit j _ (removeJob j.id s))

/-- The handles of the ended jobs join the completion queue in list order (R135). -/
theorem queue_foldl_endInList (code : TermCode) (gone : List Job) (s : State) :
    (gone.foldl (endInList code) s).results.queue = s.results.queue ++ gone.map (·.handle) := by
  induction gone generalizing s with
  | nil => simp
  | cons j rest ih => rw [List.foldl_cons, ih, queue_endInList, List.map_cons, List.append_assoc, List.singleton_append]

/-- The ended jobs leave the list, and all others stay in order (R61). -/
theorem jobs_foldl_endInList (code : TermCode) (gone : List Job) {s : State} (once : (s.jobs.map (·.id)).Nodup) :
    (gone.foldl (endInList code) s).jobs = s.jobs.filter fun x => !(gone.map (·.id)).contains x.id := by
  induction gone generalizing s with
  | nil => simp
  | cons j rest ih =>
    have left : (endInList code s j).jobs = s.jobs.filter fun x => x.id != j.id := by
      rw [jobs_endInList, eraseP_id_eq_filter once]
    have once' : ((endInList code s j).jobs.map (·.id)).Nodup := by
      rw [left]
      exact once.sublist (List.filter_sublist.map _)
    rw [List.foldl_cons, ih once', left, List.filter_filter]
    refine List.filter_congr fun x _ => ?_
    rw [List.map_cons, List.contains_cons, Bool.not_or, Bool.and_comm]
    rfl

theorem slot_foldl_endInList_of_ne (code : TermCode) {gone : List Job} {h : Handle} (ne : ∀ j ∈ gone, j.handle ≠ h)
    (s : State) : (gone.foldl (endInList code) s).slot h = s.slot h := by
  induction gone generalizing s with
  | nil => rfl
  | cons j rest ih =>
    obtain ⟨r, slot⟩ := slot_endInList code s j h
    rw [List.foldl_cons, ih fun x hx => ne x (List.mem_cons_of_mem _ hx), slot,
      if_neg (Ne.symm (ne j List.mem_cons_self))]

/-- Each ended job's slot holds its record, made at the tick of the announcement (R76, R127). -/
theorem slot_foldl_endInList (code : TermCode) {gone : List Job} (once : (gone.map (·.handle)).Nodup) {j : Job}
    (hj : j ∈ gone) (s : State) : ∃ u : State, u.ref = s.ref ∧ (gone.foldl (endInList code) s).slot j.handle =
      .filled (recordOf u j (bareDeposit code (j.lastRun.map (·.lane)) (j.lastRun.map (·.tick)) none)) := by
  induction gone generalizing s with
  | nil => cases hj
  | cons x rest ih =>
    rw [List.map_cons, List.nodup_cons] at once
    rw [List.foldl_cons]
    rcases List.mem_cons.1 hj with rfl | hj
    · refine ⟨removeJob j.id s, rfl, ?_⟩
      rw [slot_foldl_endInList_of_ne code fun y hy e => once.1 (List.mem_map.2 ⟨y, hy, e⟩), endInList, slot_deposit,
        if_pos rfl]
    · obtain ⟨u, tick, slot⟩ := ih once.2 hj (endInList code s x)
      exact ⟨u, tick.trans (keepsRest_endInList code s x).ref, slot⟩

/-- An interrupted end of a MEASURE job leaves its site only the job's id (R16). -/
theorem site_endInList_interrupted {code : TermCode} (c : classOf code = .interrupted) {j : Job}
    (m : j.work.kind = .measure) (s : State) (k : Site) : (endInList code s j).site k =
      if k = j.site then { s.site k with lastJobId := some j.id } else s.site k := by
  have noBin : (verdictOf (removeJob j.id s) j.work
      (bareDeposit code (j.lastRun.map (·.lane)) (j.lastRun.map (·.tick)) none)) = none := verdictOf_interrupted c
  rw [endInList, site_deposit_measure m, noBin, show (bareDeposit code _ _ none).code = code from rfl, c]
  rfl

/-- The site's last job is the last of those ended, and no other site changes (R16). -/
theorem site_foldl_endInList {code : TermCode} (c : classOf code = .interrupted) {i : Site} {gone : List Job}
    (fit : ∀ j ∈ gone, j.work.kind = .measure ∧ j.site = i) (s : State) (k : Site) :
    (gone.foldl (endInList code) s).site k =
      if k = i then { s.site k with
        lastJobId := match gone.getLast? with
          | some j => some j.id
          | none => (s.site k).lastJobId }
      else s.site k := by
  induction gone generalizing s with
  | nil => simp
  | cons j rest ih =>
    obtain ⟨m, rfl⟩ := fit j List.mem_cons_self
    rw [List.foldl_cons, ih fun x hx => fit x (List.mem_cons_of_mem _ hx), site_endInList_interrupted c m]
    by_cases e : k = j.site
    · simp only [if_pos e, List.getLast?_cons]
      cases rest.getLast? <;> rfl
    · simp only [if_neg e]

/-- Only the sites, the job list and the results change. -/
structure EndsInList (s t : State) : Prop where
  only : OnlyWork s t
  quiet : t.quiet = s.quiet
  lanes : t.lanes = s.lanes
  paths : t.paths = s.paths

theorem EndsInList.trans {s t u : State} (h : EndsInList s t) (k : EndsInList t u) : EndsInList s u :=
  ⟨h.only.trans k.only, k.quiet.trans h.quiet, k.lanes.trans h.lanes, k.paths.trans h.paths⟩

theorem EndsInList.eq {s t : State} (h : EndsInList s t) :
    t = { s with sites := t.sites, jc := { s.jc with jobs := t.jobs }, results := t.results } := by
  rw [← h.quiet, ← h.lanes, ← h.paths]
  exact h.only.eq

theorem endsInList_endInList (code : TermCode) (s : State) (j : Job) : EndsInList s (endInList code s j) :=
  ⟨onlyWork_endInList code s j, quiet_deposit j _ _, lanes_endInList code s j, paths_deposit j _ _⟩

theorem endsInList_foldl (code : TermCode) (gone : List Job) (s : State) :
    EndsInList s (gone.foldl (endInList code) s) :=
  foldl_related EndsInList (fun _ => ⟨.rfl, rfl, rfl, rfl⟩) (fun _ _ _ => .trans) _ (endsInList_endInList code) gone s

theorem mem_queuedMeasureFor {i : Site} {j : Job} (h : queuedMeasureFor i j = true) :
    j.work.kind = .measure ∧ j.site = i := by
  simp only [queuedMeasureFor, Bool.and_eq_true, beq_iff_eq] at h
  exact ⟨h.1.2, h.2⟩

/-- Settles O29: the fold of `endInList` over the entries for the site. -/
theorem announcedSiteEndsItsJobs : Obligations.AnnouncedSiteEndsItsJobs := by
  unfold Obligations.AnnouncedSiteEndsItsJobs
  intro s i fit gone t
  have fits : ∀ j ∈ gone, j.work.kind = .measure ∧ j.site = i := fun j hj =>
    mem_queuedMeasureFor (List.mem_filter.1 hj).2
  have sub : gone.Sublist s.jobs := List.filter_sublist
  have site := site_foldl_endInList (code := .siteGone) rfl fits s
  refine ⟨?_, queue_foldl_endInList .siteGone gone s, fun j hj => ?_,
    fun h ne => slot_foldl_endInList_of_ne .siteGone ne s, (site i).trans (if_pos rfl),
    fun k ne => (site k).trans (if_neg ne), (endsInList_foldl .siteGone gone s).eq⟩
  · refine (jobs_foldl_endInList .siteGone gone fit.ids).trans (List.filter_congr fun x hx => congrArg not ?_)
    rw [Bool.eq_iff_iff, List.contains_iff_mem, List.mem_map]
    refine ⟨fun ⟨y, hy, e⟩ => ?_, fun p => ⟨x, List.mem_filter.2 ⟨hx, p⟩, rfl⟩⟩
    rw [← job_unique fit.ids (sub.subset hy) hx e]
    exact (List.mem_filter.1 hy).2
  · obtain ⟨u, tick, slot⟩ := slot_foldl_endInList .siteGone (fit.handles.sublist (sub.map _)) hj s
    obtain ⟨-, at_i⟩ := fits j hj
    exact ⟨_, slot, rfl, rfl, at_i, rfl, rfl, congrArg Reference.tick tick, rfl, rfl, verdictOf_interrupted rfl, rfl,
      rfl, rfl⟩

end Sys2Proof.Machine
end

section
/-!
SUPPORT. The end of a job on its lane and the giving back of a job, field by field (R8, R9, R73, R94, R97, R166).
-/
namespace Sys2Proof.Machine

/-! ### The detach and the release (R8, R9) -/

/-- A release, where it comes to a switch-on, at the sites and the quads (R7, R8). -/
theorem site_release_of {s : State} {q : Quad} (free : quadAttached s q = false) (pending : quadPending s q = true)
    (k : Site) : (release q s).site k =
      if quadOf k = q ∧ (s.site k).state = .powerPending then switchedOn (s.site k)
      else if quadOf k = q then reloadSettle (s.site k) else s.site k := by
  rw [release_of free pending, site_switchOn (nodup_waiting s q)]
  simp only [mem_waiting]

theorem attachedKind_release (q : Quad) (s : State) (k : Site) :
    ((release q s).site k).attachedKind = (s.site k).attachedKind := by
  by_cases idle : quadAttached s q = true ∨ quadPending s q = false
  · rw [release_of_not idle]
  · rw [not_or, Bool.not_eq_true, Bool.not_eq_false] at idle
    rw [site_release_of idle.1 idle.2]
    split
    · rfl
    · split
      · exact attachedKind_reloadSettle _
      · rfl

/-- The site that a lane detaches has no attachment (R9). -/
theorem detached_of_some {l : Lane} {s : State} {i : Site} (h : (s.lane l).run.site = some i) :
    ((detach l s).site i).attachedLane = none ∧ ((detach l s).site i).attachedKind = none := by
  rw [detach_of_some h, attachedLane_release, attachedKind_release, site_modSite_self]
  exact ⟨rfl, rfl⟩

/-- A change that has nothing to do with sites and quads. -/
structure NotAtSites (g : State → State) : Prop where
  site : ∀ s k, (g s).site k = s.site k
  settings : ∀ s, (g s).settings = s.settings
  modSite : ∀ s i f, (g s).modSite i f = g (s.modSite i f)
  setQuiet : ∀ s q c, (g s).setQuiet q c = g (s.setQuiet q c)

theorem notAtSites_modLane (l : Lane) (f : LaneContext → LaneContext) : NotAtSites fun s => s.modLane l f :=
  ⟨fun _ _ => rfl, fun _ => rfl, fun _ _ _ => rfl, fun _ _ _ => rfl⟩

theorem notAtSites_setJobs (jobs : List Job) : NotAtSites fun s => s.setJobs jobs :=
  ⟨fun _ _ => rfl, fun _ => rfl, fun _ _ _ => rfl, fun _ _ _ => rfl⟩

namespace NotAtSites

variable {g : State → State}

theorem foldl_modSite (h : NotAtSites g) (f : SiteRecord → SiteRecord) (sites : List Site) (s : State) :
    sites.foldl (fun s i => s.modSite i f) (g s) = g (sites.foldl (fun s i => s.modSite i f) s) :=
  List.foldl_hom g fun s i => h.modSite s i f

theorem switchOn (h : NotAtSites g) (q : Quad) (sites : List Site) (s : State) :
    switchOn q sites (g s) = g (switchOn q sites s) := by
  unfold Machine.switchOn disturbQuad
  rw [h.foldl_modSite, h.settings, h.setQuiet, h.foldl_modSite]

theorem release (h : NotAtSites g) (q : Quad) (s : State) : release q (g s) = g (release q s) := by
  have attached : quadAttached (g s) q = quadAttached s q := by simp only [quadAttached, h.site]
  have pending : quadPending (g s) q = quadPending s q := by simp only [quadPending, h.site]
  unfold Machine.release
  simp only [attached, pending, h.site, h.switchOn]
  split <;> rfl

/-- A detach does not see a change away from the sites that leaves its lane's site. -/
theorem detach (h : NotAtSites g) {l : Lane} {s : State} (same : ((g s).lane l).run.site = (s.lane l).run.site) :
    detach l (g s) = g (detach l s) := by
  cases e : (s.lane l).run.site with
  | none => rw [detach_of_none e, detach_of_none (same.trans e)]
  | some i => rw [detach_of_some e, detach_of_some (same.trans e), h.modSite, h.release]

end NotAtSites

theorem detach_setHold (l : Lane) (j : Job) (dest : LaneState) (s : State) :
    (detach l (setHold l j dest s)).sites = (detach l s).sites
      ∧ (detach l (setHold l j dest s)).quiet = (detach l s).quiet := by
  unfold setHold
  split
  · rw [(notAtSites_modLane l _).detach (by rw [lane_modLane_self])]
    exact ⟨rfl, rfl⟩
  · exact ⟨rfl, rfl⟩

/-! ### The path of a check (R166) -/

/-- Only a CHECK job that ends NORMAL writes a path, and only its own. -/
theorem path_writeCheckedPath_of_not {j : Job} {e : EndReport} {i : Site} {m : Lane}
    (h : j.work ≠ .check m ∨ e.newRating = none ∨ i ≠ j.site) (s : State) :
    (writeCheckedPath j e s).path i m = s.path i m := by
  unfold writeCheckedPath
  split
  · rename_i l r w rated
    refine path_setPath_of_ne s _ fun same => ?_
    obtain ⟨rfl, rfl⟩ := Prod.mk.inj same
    rcases h with h | h | h
    · exact h w
    · rw [rated] at h; cases h
    · exact h rfl
  · rfl

theorem path_writeCheckedPath {j : Job} {e : EndReport} {m : Lane} {x : Rating} (w : j.work = .check m)
    (rated : e.newRating = some x) (s : State) : (writeCheckedPath j e s).path j.site m =
      ⟨x, e.floors, some s.ref.tick, min 255 ((s.path j.site m).checks + 1)⟩ := by
  simp only [writeCheckedPath, w, rated, writePath, path_setPath_self]
  rfl

theorem writeCheckedPath_eq (j : Job) (e : EndReport) (s : State) :
    writeCheckedPath j e s = { s with paths := (writeCheckedPath j e s).paths } := by
  unfold writeCheckedPath
  split <;> rfl

/-! ### The hold (R97) -/

/-- When a terminal end sets the ring hold. -/
def holdDue (s : State) (l : Lane) (j : Job) (dest : LaneState) : Prop :=
  (∃ p r, j.work = .measure p ∧ s.plan p = some r ∧ r.keepSamples = true)
    ∧ (∃ c, (s.lane l).ring = some c ∧ c.jobId = j.id) ∧ dest ≠ .disabled

theorem jobKeeps_iff {s : State} {w : Work} :
    jobKeeps s w = true ↔ ∃ p r, w = .measure p ∧ s.plan p = some r ∧ r.keepSamples = true := by
  cases w with
  | check l => simp [jobKeeps]
  | measure p => cases e : s.plan p <;> simp [jobKeeps, e]

theorem ringNames_iff {c : LaneContext} {id : Nat} : ringNames c id = true ↔ ∃ x, c.ring = some x ∧ x.jobId = id := by
  cases e : c.ring <;> simp [ringNames, e]

theorem holdsRing_iff {s : State} {l : Lane} {j : Job} {dest : LaneState} :
    holdsRing s l j dest = true ↔ holdDue s l j dest := by
  simp [holdsRing, holdDue, jobKeeps_iff, ringNames_iff, and_assoc]

/-- The deposit of an end changes neither plans nor rings. -/
theorem holdDue_endDeposit {l : Lane} {j : Job} {e : EndReport} {dest : LaneState} {s : State} :
    holdDue (endDeposit l j e s) l j dest ↔ holdDue s l j dest := by
  have store : (endDeposit l j e s).store = s.store :=
    ((keepsRest_removeJob j.id s).trans <| (keepsRest_writeCheckedPath j e _).trans (keepsRest_deposit j _ _)).store
  have plan (p : PlanIx) : (endDeposit l j e s).plan p = s.plan p := congrArg (fun x => x.plans[p]) store
  simp only [holdDue, plan, lane_of_lanes (lanes_endDeposit l j e s)]

/-- The lane of an end: its run cleared, and held where a hold is due. -/
theorem lane_endJob (l : Lane) (j : Job) (e : EndReport) (dest : LaneState) (s : State) :
    (holdDue s l j dest → (endJob l j e dest s).lane l = { s.lane l with
        run := RunState.idle, state := dest, hold := true, holdLeft := ⟨s.link.settings.holdLimit, false⟩ })
      ∧ (¬ holdDue s l j dest → (endJob l j e dest s).lane l = { s.lane l with run := RunState.idle, state := dest }) := by
  have link : (endDeposit l j e s).link = s.link :=
    ((keepsRest_removeJob j.id s).trans <| (keepsRest_writeCheckedPath j e _).trans (keepsRest_deposit j _ _)).link
  have lane := lane_of_lanes (lanes_endDeposit l j e s) l
  rw [endJob_eq, lane_leave_detach, if_pos rfl, setHold]
  constructor <;> intro due <;> rw [← holdDue_endDeposit (e := e), ← holdsRing_iff] at due
  · rw [if_pos due, lane_modLane_self, lane, State.settings, link]
    rfl
  · rw [if_neg due, lane]

theorem onlyWork_leave_detach (l : Lane) (dest : LaneState) (u : State) : OnlyWork u (leave l dest (detach l u)) :=
  onlyWork_of_jc ((keepsRest_detach l u).trans (keepsRest_leave l dest _)) (jc_leave_detach l dest u)

theorem onlyWork_endJob (l : Lane) (j : Job) (e : EndReport) (dest : LaneState) (s : State) :
    OnlyWork s (endJob l j e dest s) := by
  have written : OnlyWork s (writeCheckedPath j e (removeJob j.id s)) :=
    (onlyWork_removeJob j.id s).trans (onlyWork_of_jc (keepsRest_writeCheckedPath j e _) (jc_writeCheckedPath j e _))
  have held : OnlyWork (endDeposit l j e s) (setHold l j dest (endDeposit l j e s)) :=
    onlyWork_of_jc (keepsRest_setHold l j dest _) (jc_setHold l j dest _)
  exact (written.trans (onlyWork_deposit j _ _)).trans (held.trans (onlyWork_leave_detach l dest _))

theorem paths_endJob (l : Lane) (j : Job) (e : EndReport) (dest : LaneState) (s : State) :
    (endJob l j e dest s).paths = (writeCheckedPath j e (removeJob j.id s)).paths := by
  rw [endJob_eq, paths_leave_detach, paths_setHold, endDeposit, paths_deposit]

/-- What is deposited from: the state with the entry gone and the path written. -/
theorem endDeposit_eq (l : Lane) (j : Job) (e : EndReport) (dest : LaneState) (s : State) :
    deposit j (handedBy s l e) { s with jc := { s.jc with jobs := (endJob l j e dest s).jobs }
                                        paths := (endJob l j e dest s).paths } = endDeposit l j e s := by
  rw [endDeposit, jobs_endJob, paths_endJob]
  exact congrArg (deposit j _) (writeCheckedPath_eq j e (removeJob j.id s)).symm

/-- Settles O32: the end by its parts (deposit, hold, detach, leaving), then the detach and the release. -/
theorem jobEndsOnItsLane : Obligations.JobEndsOnItsLane := by
  unfold Obligations.JobEndsOnItsLane
  refine ⟨fun s l j e dest fit hj at_j runs => ?_, fun s l => ⟨detach_of_none, fun i => detach_of_some⟩,
    fun s q => ⟨fun h => release_of_not ?_, fun free ⟨w, waits⟩ => ?_⟩⟩
  · intro t held handed u
    have u_eq : u = endDeposit l j e s := endDeposit_eq l j e dest s
    have path (i : Site) (m : Lane) : t.path i m = (writeCheckedPath j e (removeJob j.id s)).path i m :=
      congrArg (fun v : Vector PathEntry 64 => v[pathIx i m]) (paths_endJob l j e dest s)
    have attached : (u.lane l).run.site = some j.site := by
      rw [u_eq, lane_of_lanes (lanes_endDeposit l j e s), at_j]
    have sites : t.sites = (detach l u).sites := by
      rw [u_eq]
      exact (detach_setHold l j dest _).1
    have quiet : t.quiet = (detach l u).quiet := by
      rw [u_eq]
      exact (detach_setHold l j dest _).2
    have results : t.results = u.results := by
      rw [u_eq]
      exact (results_leave_detach l dest _).trans (results_setHold l j dest _)
    obtain ⟨holds, clears⟩ := lane_endJob l j e dest s
    refine ⟨(jobs_endJob l j e dest s).trans (eraseP_id_eq_filter fit.ids j.id),
      fun i m h => (path i m).trans (path_writeCheckedPath_of_not h _),
      fun m x w rated => (path j.site m).trans (path_writeCheckedPath w rated _), results, holds, clears,
      fun m ne => lane_endJob_of_ne j e dest s ne, sites, quiet, ?_, ?_, (onlyWork_endJob l j e dest s).eq⟩
    · rw [site_of_sites sites]
      exact (detached_of_some attached).1
    · rw [site_of_sites sites]
      exact (detached_of_some attached).2
  · refine h.imp (fun ⟨i, at_q, att⟩ => quadAttached_iff.2 ⟨i, at_q, Option.isSome_iff_ne_none.2 att⟩) fun none => ?_
    exact eq_false_of_ne_true fun p => (quadPending_iff.1 p).elim none
  · have free' : quadAttached s q = false := eq_false_of_ne_true fun a => free <| by
      obtain ⟨i, at_q, att⟩ := quadAttached_iff.1 a
      exact ⟨i, at_q, Option.isSome_iff_ne_none.1 att⟩
    have pending : quadPending s q = true := quadPending_iff.2 ⟨w, waits⟩
    refine ⟨fun i => ⟨fun p => ?_, fun at_q settling => ?_, fun np ns => ?_⟩, ?_, fun p ne => ?_, ?_⟩
    · rw [site_release_of free' pending, if_pos p]
      rfl
    · rw [site_release_of free' pending, if_neg (by simp [settling]), if_pos at_q, reloadSettle_eq, if_pos settling]
    · rw [site_release_of free' pending, if_neg np, reload_eq, if_neg ns]
    · rw [release_of free' pending, quietOf_switchOn, if_pos rfl]
      rfl
    · rw [release_of free' pending, quietOf_switchOn, if_neg ne]
    · rw [release_of free' pending]
      exact switchOn_eq q _ s

/-! ### The giving back of a job (R73, R96) -/

theorem giveBackEnd_of_spent {s : State} {l : Lane} {j : Job} {cause : RequeueCause} {dest : LaneState}
    (h : cause = .disturbed ∧ j.retries = jobRetryLimit s j.work) :
    giveBackEnd s l j cause dest = some .disturbed := if_pos h

theorem giveBackEnd_of_siteGone {s : State} {l : Lane} {j : Job} {cause : RequeueCause} {dest : LaneState}
    (h : ¬ (cause = .disturbed ∧ j.retries = jobRetryLimit s j.work)) (m : j.work.kind = .measure)
    (gone : (s.site j.site).state = .vacant ∨ (s.site j.site).state = .fault ∨ (s.site j.site).state = .disabled) :
    giveBackEnd s l j cause dest = some .siteGone := by
  rw [giveBackEnd, if_neg h]
  cases w : j.work with
  | check t => rw [w] at m; cases m
  | measure p => rcases gone with e | e | e <;> rw [e]

theorem giveBackEnd_of_laneGone {s : State} {l m : Lane} {j : Job} {cause : RequeueCause} {dest : LaneState}
    (h : ¬ (cause = .disturbed ∧ j.retries = jobRetryLimit s j.work)) (w : j.work = .check m)
    (gone : (s.lane m).state = .disabled ∨ (m = l ∧ dest = .disabled)) :
    giveBackEnd s l j cause dest = some .noPath := by
  rw [giveBackEnd, if_neg h, w]
  exact if_pos gone

/-- A job that none of the three tests ends is requeued (R73). -/
theorem giveBackEnd_eq_none {s : State} {l : Lane} {j : Job} {cause : RequeueCause} {dest : LaneState}
    (h : ¬ (cause = .disturbed ∧ j.retries = jobRetryLimit s j.work))
    (site : ¬ (j.work.kind = .measure
      ∧ ((s.site j.site).state = .vacant ∨ (s.site j.site).state = .fault ∨ (s.site j.site).state = .disabled)))
    (lane : ¬ ∃ m, j.work = .check m ∧ ((s.lane m).state = .disabled ∨ (m = l ∧ dest = .disabled))) :
    giveBackEnd s l j cause dest = none := by
  rw [giveBackEnd, if_neg h]
  cases w : j.work with
  | check t => exact if_neg fun gone => lane ⟨t, w, gone⟩
  | measure p =>
    dsimp only
    split
    · rename_i e; exact absurd ⟨by rw [w]; rfl, .inl e⟩ site
    · rename_i e; exact absurd ⟨by rw [w]; rfl, .inr (.inl e)⟩ site
    · rename_i e; exact absurd ⟨by rw [w]; rfl, .inr (.inr e)⟩ site
    · rfl

theorem giveBack_of_end {s : State} {l : Lane} {j : Job} {cause : RequeueCause} {dest : LaneState} {code : TermCode}
    (runs : laneJob s l = some j) (ends : giveBackEnd s l j cause dest = some code) :
    giveBack l cause dest s = endJob l j (bareEnd code (s.lane l).run.coarse) dest s := by
  simp only [giveBack, runs, ends]

theorem giveBack_of_requeue {s : State} {l : Lane} {j : Job} {cause : RequeueCause} {dest : LaneState}
    (runs : laneJob s l = some j) (goesOn : giveBackEnd s l j cause dest = none) :
    giveBack l cause dest s = leave l dest (detach l (requeueEntry cause j s)) := by
  simp only [giveBack, runs, goesOn]

theorem detach_requeueEntry (l : Lane) (cause : RequeueCause) (j : Job) (s : State) :
    (detach l (requeueEntry cause j s)).sites = (detach l s).sites
      ∧ (detach l (requeueEntry cause j s)).quiet = (detach l s).quiet := by
  rw [requeueEntry, (notAtSites_setJobs _).detach rfl]
  exact ⟨rfl, rfl⟩

/-- What a requeue changes: the job list, the lane, and the sites and quads by the detach. -/
theorem onlyWork_requeue (l : Lane) (cause : RequeueCause) (j : Job) (dest : LaneState) (s : State) :
    OnlyWork s (leave l dest (detach l (requeueEntry cause j s))) :=
  .trans ⟨keepsRest_requeueEntry cause j s, rfl⟩ (onlyWork_leave_detach l dest _)

/-- Settles O33: the tests of R73 in their order, then the requeue by its parts. -/
theorem givenBackJobIsDecided : Obligations.GivenBackJobIsDecided := by
  unfold Obligations.GivenBackJobIsDecided
  intro s l j cause dest fit hj at_j t spent siteGone laneGone
  have runs : laneJob s l = some j := laneJob_of fit.ids hj at_j
  refine ⟨fun h => giveBack_of_end runs (giveBackEnd_of_spent h),
    fun h ⟨m, gone⟩ => giveBack_of_end runs (giveBackEnd_of_siteGone h m gone),
    fun h ⟨m, w, gone⟩ => giveBack_of_end runs (giveBackEnd_of_laneGone h w gone), fun h site lane => ?_⟩
  have requeue : t = leave l dest (detach l (requeueEntry cause j s)) :=
    giveBack_of_requeue runs (giveBackEnd_eq_none h site lane)
  have jobs : t.jobs = requeued cause j :: s.jobs.filter fun x => x.id != j.id := by
    rw [requeue, State.jobs, jc_leave_detach, ← eraseP_id_eq_filter fit.ids]
    rfl
  have results : t.results = s.results := requeue ▸ results_leave_detach l dest (requeueEntry cause j s)
  have paths : t.paths = s.paths := requeue ▸ paths_leave_detach l dest (requeueEntry cause j s)
  have laneOf (m : Lane) := lane_leave_detach l dest (requeueEntry cause j s) m
  obtain ⟨sites, quiet⟩ := detach_requeueEntry l cause j s
  refine ⟨jobs.trans ?_, results, ?_, fun m ne => ?_, ?_, ?_, fun i at_i => ?_, ?_⟩
  · cases cause <;> rfl
  · rw [requeue, laneOf, if_pos rfl]
    rfl
  · rw [requeue, laneOf, if_neg ne]
    rfl
  · rw [requeue]
    exact sites
  · rw [requeue]
    exact quiet
  · rw [requeue, site_of_sites (sites_leave l dest _)]
    exact (detached_of_some (s := requeueEntry cause j s) at_i).1
  · rw [← results, ← paths]
    exact (requeue ▸ onlyWork_requeue l cause j dest s : OnlyWork s t).eq

end Sys2Proof.Machine
end

section
/-!
SUPPORT. The service tick (R3, R28, R32, R175), and the drain of a state that owes nothing (log 5).
-/
namespace Sys2Proof.Machine

/-! ### The tick -/

theorem lane_tickAll (contact flt : BitVec 16) (s : State) (l : Lane) :
    (tickAll contact flt s).lane l = tickLane (s.lane l) := by
  simp [tickAll]

theorem quietOf_tickAll (contact flt : BitVec 16) (s : State) (q : Quad) :
    (tickAll contact flt s).quietOf q = (s.quietOf q).tick := by
  rw [tickAll, quietOf_modLink, quietOf_mapLanes, quietOf_mapQuiet_self]
  rfl

theorem tickAll_eq (contact flt : BitVec 16) (s : State) : tickAll contact flt s =
    { s with
      sites := (tickAll contact flt s).sites, quiet := (tickAll contact flt s).quiet
      ref := { s.ref with tick := s.ref.tick + 1 }
      lanes := (tickAll contact flt s).lanes, link := tickLink s.link } := by
  simp only [tickAll, State.modLink, State.mapLanes, State.mapQuiet, State.mapSites, State.modRef]

/-! ### What is not due is left (log 3) -/

section
variable {s : State}

theorem contactFall_of_not {i : Site} (h : (s.site i).changeDue = false) : contactFall i s = s := by
  simp [contactFall, h]

theorem supplyFaultTrip_of_not {i : Site} (h : (s.site i).tripDue = false) : supplyFaultTrip i s = s := by
  simp [supplyFaultTrip, h]

theorem settleExpiry_of_not {i : Site} (h : (s.site i).settle.due = false) : settleExpiry i s = s := by
  simp [settleExpiry, h]

theorem quietExpiry_of_not {q : Quad} (h : (s.quietOf q).due = false) : quietExpiry q s = s := by
  simp [quietExpiry, h]

theorem calCounterExpiry_of_not {l : Lane} (h : (s.lane l).calCounter.due = false) : calCounterExpiry l s = s := by
  simp [calCounterExpiry, h]

theorem attachEnd_of_not {l : Lane} (h : (s.lane l).run.attach.due = false) : attachEnd l s = s := by
  simp [attachEnd, h]

theorem lockWindowLapse_of_not {l : Lane} (h : ¬ ((s.lane l).state = .acquiring ∧ 40 ≤ acquireAge s l)) :
    lockWindowLapse l s = s := by
  have closed : ¬ lockWindowOver s l = true := fun elapsed => h <| by
    simp only [lockWindowOver, Bool.and_eq_true, beq_iff_eq, decide_eq_true_eq] at elapsed
    exact ⟨elapsed.1.1, elapsed.2⟩
  rw [lockWindowLapse, if_neg closed]

theorem checkCaptureEnd_of_not {l : Lane} (h : (s.lane l).run.capture.due = false) : checkCaptureEnd l s = s := by
  simp [checkCaptureEnd, h]

theorem reductionEnd_of_not {l : Lane} (h : (s.lane l).run.reduce.due = false) : reductionEnd l s = s := by
  simp [reductionEnd, h]

theorem budgetExpiry_of_not {l : Lane} (h : (s.lane l).run.budget.due = false) : budgetExpiry l s = s := by
  simp [budgetExpiry, h]

theorem holdExpiry_of_not {l : Lane} (h : (s.lane l).holdLeft.due = false) : holdExpiry l s = s := by
  simp [holdExpiry, h]

theorem gapExpiry_of_not (h : s.link.gap.due = false) : gapExpiry s = s := by
  simp [gapExpiry, h]

theorem restartBusyWindowEnd_of_not (h : s.link.busy.due = false) : restartBusyWindowEnd s = s := by
  simp [restartBusyWindowEnd, h]

/-- No pair is made where no job may start (R69). -/
theorem lanePairing_of_not (h : ∀ j ∈ s.jobs, ∀ l, mayStart s j l = false) : lanePairing s = s := by
  have none : nextPair s = none := by
    refine List.findSome?_eq_none_iff.2 fun j hj => ?_
    have noLane : allLanes.filter (mayStart s j) = [] := List.filter_eq_nil_iff.2 fun l _ => by simp [h j hj l]
    simp [bestLane, noLane]
  simp [lanePairing, none]

theorem quietTimeCalibration_of_not {l : Lane} (h : (s.lane l).state = .idle → (s.lane l).owed = 0) :
    quietTimeCalibration l s = s := by
  refine if_neg fun ⟨idle, owes, _⟩ => ?_
  rw [h idle] at owes
  cases owes

theorem foldl_idle {α : Type} {f : State → α → State} (h : ∀ a, f s a = s) (l : List α) : l.foldl f s = s := by
  induction l with
  | nil => rfl
  | cons a rest ih => rw [List.foldl_cons, h, ih]

end

/-- A lane's countdowns that are not due, its lock window not over and, where it is IDLE, no calibration owed. -/
def LaneOwesNothing (s : State) (l : Lane) : Prop :=
  let c := s.lane l
  c.calCounter.due = false ∧ c.holdLeft.due = false ∧ c.run.budget.due = false
    ∧ c.run.attach.due = false ∧ c.run.capture.due = false ∧ c.run.reduce.due = false
    ∧ ¬ (c.state = .acquiring ∧ 40 ≤ acquireAge s l) ∧ (c.state = .idle → c.owed = 0)

theorem drainLane_of_not {s : State} {l : Lane} (h : LaneOwesNothing s l) : drainLane s l = s := by
  obtain ⟨cal, hold, budget, attach, capture, reduce, lock, -⟩ := h
  rw [drainLane, calCounterExpiry_of_not cal, attachEnd_of_not attach, lockWindowLapse_of_not lock,
    checkCaptureEnd_of_not capture, reductionEnd_of_not reduce, budgetExpiry_of_not budget, holdExpiry_of_not hold]

theorem drainSite_of_not {s : State} {i : Site}
    (h : (s.site i).changeDue = false ∧ (s.site i).tripDue = false ∧ (s.site i).settle.due = false) :
    drainSite s i = s := by
  obtain ⟨change, trip, settle⟩ := h
  rw [drainSite, contactFall_of_not change, contactRise_of_none (.inl change), supplyFaultTrip_of_not trip,
    settleExpiry_of_not settle]

theorem drain_eq (s : State) : drain s = allLanes.foldl drainQuiet (allLanes.foldl drainPairing
    (restartBusyWindowEnd (gapExpiry (allLanes.foldl drainLane (allQuads.foldl drainQuad (allSites.foldl drainSite s)))))) :=
  rfl

/-- The site record after a tick, by whether the line differs from the contact (R3). -/
theorem tickSite_of_differs (debounce : Nat) (raw flt : Bool) (r : SiteRecord) :
    tickSite debounce raw flt r = { r with
      run := if raw ≠ r.contact then r.run + 1 else 0
      changeDue := decide (raw ≠ r.contact ∧ debounce ≤ r.run + 1)
      settle := r.settle.tick
      tripDue := r.supply && flt } := by
  rw [tickSite_eq]
  by_cases same : raw = r.contact <;> simp [same]

theorem counterRuns_iff {x : LaneState} : counterRuns x = true ↔ x = .idle ∨ isMeasuring x = true := by
  simp [counterRuns]

/-- Settles O42: the tick by blocks, and each step of the drain where it is not due. -/
theorem tickCountsAndSamples : Obligations.TickCountsAndSamples := by
  unfold Obligations.TickCountsAndSamples
  intro s contact flt order running
  have ticks : exec (.serviceTick contact flt order) s =
      .next (tickAll contact flt (sampleLines contact flt order (drain s))) := occurs_running running
  refine ⟨⟨_, ticks, ?_⟩, fun sites quads gap busy lanes jobs => ?_⟩
  · generalize drain s = u
    have ticked := tickAll_eq contact flt (sampleLines contact flt order u)
    refine ⟨congrArg State.ref ticked, fun i => ?_, fun q => quietOf_tickAll contact flt _ q, fun l => ?_,
      congrArg State.link ticked, congrArg State.pins ticked, congrArg State.laneOrder ticked, ?_⟩
    · rw [site_tickAll, tickSite_of_differs]
      rfl
    · rw [lane_tickAll]
      simp only [tickLane, counterRuns_iff]
      rfl
    · rw [ticked]
      rfl
  · rw [drain_eq, foldl_idle (f := drainSite) fun i => drainSite_of_not (sites i),
      foldl_idle (f := drainQuad) fun q => quietExpiry_of_not (quads q),
      foldl_idle (f := drainLane) fun l => drainLane_of_not (lanes l), gapExpiry_of_not gap,
      restartBusyWindowEnd_of_not busy, foldl_idle (f := drainPairing) fun _ => lanePairing_of_not jobs]
    refine foldl_idle (f := drainQuiet) (fun l => ?_) _
    obtain ⟨-, -, -, -, -, -, -, paid⟩ := lanes l
    exact quietTimeCalibration_of_not paid

end Sys2Proof.Machine
end

section
/-!
SUPPORT. Debounced changes and supply faults at their site (R4 to R7, R13).
-/
namespace Sys2Proof.Machine

theorem modSite_congr {s : State} {i : Site} {f g : SiteRecord → SiteRecord} (h : f (s.site i) = g (s.site i)) :
    s.modSite i f = s.modSite i g := by
  rw [State.modSite, State.modSite, show f s.sites[i] = g s.sites[i] from h]

/-- The site takes its new contact and goes to a state (R3). -/
def movesTo (level : Bool) (x : SiteState) (r : SiteRecord) : SiteRecord :=
  { r with contact := level, run := 0, changeDue := false, state := x }

/-! ### The rise (R4, R6, R7) -/

section
variable {s : State} {i : Site}

theorem contactRise_takes (due : (s.site i).changeDue = true) (low : (s.site i).contact = false)
    (x : (s.site i).state ≠ .vacant) : contactRise i s = s.modSite i (movesTo true (s.site i).state) := by
  simp only [contactRise, due, low, Bool.not_false, Bool.and_self, if_true, if_neg x]
  exact modSite_congr rfl

theorem contactRise_seats (due : (s.site i).changeDue = true) (low : (s.site i).contact = false)
    (x : (s.site i).state = .vacant) (auto : (s.site i).autopower = false) :
    contactRise i s = s.modSite i (movesTo true .seated) := by
  simp only [contactRise, due, low, Bool.not_false, Bool.and_self, if_true, x, auto]
  rfl

theorem contactRise_defers (due : (s.site i).changeDue = true) (low : (s.site i).contact = false)
    (x : (s.site i).state = .vacant) (auto : (s.site i).autopower = true)
    (attached : quadAttached s (quadOf i) = true) :
    contactRise i s = s.modSite i (movesTo true .powerPending) := by
  have still : quadAttached ([i].foldl seat s) (quadOf i) = true := by rw [quadAttached_foldl_seat, attached]
  simp only [contactRise, due, low, Bool.not_false, Bool.and_self, if_true, x, auto, risesWith, attached, claimTogether,
    still]
  simp only [List.foldl_cons, List.foldl_nil, seat, modSite_modSite]
  rfl

end

/-- The claims that a rise with autopower takes with it (R7). -/
def claimsWith (s : State) (q : Quad) (k : Site) : Prop :=
  quadOf k = q ∧ (s.site k).state = .vacant ∧ (s.site k).autopower = true ∧ (s.site k).changeDue = true
    ∧ (s.site k).contact = false

theorem mem_owedClaims_iff {s : State} {q : Quad} {k : Site} : k ∈ owedClaims s q ↔ claimsWith s q k := by
  rw [mem_owedClaims, claimsWith]
  refine and_congr_right fun _ => ?_
  simp only [owesClaim, Bool.and_eq_true, Bool.not_eq_true', beq_iff_eq]
  tauto

/-- The state after the owed claims of a quad are seated and switched on together (R7). -/
def claimsTaken (q : Quad) (s : State) : State := switchOn q (owedClaims s q) ((owedClaims s q).foldl seat s)

theorem foldl_seat_eq (sites : List Site) (s : State) :
    sites.foldl seat s = { s with sites := (sites.foldl seat s).sites } := foldl_modSite_eq _ sites s

theorem site_claimsTaken (q : Quad) (s : State) (k : Site) : (claimsTaken q s).site k =
    if k ∈ owedClaims s q then switchedOn (movesTo true .seated (s.site k))
    else if quadOf k = q then reloadSettle (s.site k) else s.site k := by
  rw [claimsTaken, site_switchOn (nodup_owedClaims s q), site_foldl_seat (nodup_owedClaims s q)]
  by_cases owed : k ∈ owedClaims s q
  · simp only [if_pos owed]
    rfl
  · simp only [if_neg owed]

theorem quietOf_claimsTaken (q : Quad) (s : State) (p : Quad) : (claimsTaken q s).quietOf p =
    if p = q then .load s.settings.quietWindow else s.quietOf p := by
  rw [claimsTaken, quietOf_switchOn, foldl_seat_eq]
  rfl

theorem claimsTaken_eq (q : Quad) (s : State) :
    claimsTaken q s = { s with sites := (claimsTaken q s).sites, quiet := (claimsTaken q s).quiet } := by
  unfold claimsTaken
  rw [switchOn_eq, foldl_seat_eq]

/-- No claim of the quad is owed any more. -/
theorem contactRise_claimsTaken {q : Quad} {s : State} {k : Site} (h : claimsWith s q k) :
    contactRise k (claimsTaken q s) = claimsTaken q s := by
  refine contactRise_of_none (.inl ?_)
  rw [site_claimsTaken, if_pos (mem_owedClaims_iff.2 h)]
  rfl

/-! ### The fall (R5) and the trip (R13) -/

section
variable {s : State} {i : Site}

theorem contactFall_disabled (due : (s.site i).changeDue = true) (high : (s.site i).contact = true)
    (x : (s.site i).state = .disabled) : contactFall i s = s.modSite i (movesTo false .disabled) := by
  simp only [contactFall, due, high, Bool.and_self, if_true, x]
  exact modSite_congr (by simp only [takeContact, movesTo, x])

theorem contactFall_unpowered (due : (s.site i).changeDue = true) (high : (s.site i).contact = true)
    (x : (s.site i).state = .seated ∨ (s.site i).state = .powerPending ∨ (s.site i).state = .fault) :
    contactFall i s = announce i (s.modSite i (movesTo false .vacant)) := by
  rcases x with x | x | x <;>
    · simp only [contactFall, due, high, Bool.and_self, if_true, x, modSite_modSite]
      rfl

theorem contactFall_powered (due : (s.site i).changeDue = true) (high : (s.site i).contact = true)
    (x : (s.site i).state = .settling ∨ (s.site i).state = .ready) : contactFall i s = announce i
      (quadEvent (quadOf i) [i] .contactFall (s.modSite i fun r => switchedOff .vacant (takeContact false r))) := by
  rcases x with x | x <;>
    simp only [contactFall, due, high, Bool.and_self, if_true, x, switchOff, modSite_modSite]

theorem supplyFaultTrip_trips (due : (s.site i).tripDue = true) (powered : (s.site i).supply = true) :
    supplyFaultTrip i s = announce i (raiseSupplyFault i (quadEvent (quadOf i) [i] .faultTrip
      (s.modSite i fun r => switchedOff .fault { r with faults := min 255 (r.faults + 1) }))) := by
  simp only [supplyFaultTrip, due, powered, Bool.and_self, if_true, switchOff, modSite_modSite]

theorem supplyFaultTrip_unpowered (h : (s.site i).supply = false) : supplyFaultTrip i s = s := by
  simp [supplyFaultTrip, h]

end

/-- Settles O44: one equation for each row of the tables of R4, R5 and R13. -/
theorem contactAndSupplyEvents : Obligations.ContactAndSupplyEvents := by
  unfold Obligations.ContactAndSupplyEvents
  intro s i running
  have runs {c : Instr} {f : State → State} {t : State} (e : exec c s = occurs f s) (h : f s = t) :
      exec c s = .next t := e.trans ((occurs_running running).trans (congrArg Host.Outcome.next h))
  refine ⟨fun due low => ⟨fun x => ?_, fun x auto => runs rfl (contactRise_seats due low x auto),
      fun x auto att => runs rfl (contactRise_defers due low x auto att), fun x auto free => ?_⟩,
    fun h => runs rfl (contactRise_of_none h),
    fun due high => ⟨fun x => runs rfl (contactFall_disabled due high x),
      fun x => runs rfl (contactFall_unpowered due high x), fun x => runs rfl (contactFall_powered due high x)⟩,
    fun due powered => runs rfl (supplyFaultTrip_trips due powered), fun h => runs rfl (supplyFaultTrip_unpowered h)⟩
  · refine runs rfl (contactRise_takes due low fun v => ?_)
    rcases x with x | x <;> rw [v] at x <;> cases x
  · have owes : owesClaim (s.site i) = true := by simp [owesClaim, due, low, x, auto]
    refine ⟨claimsTaken (quadOf i) s, runs rfl (contactRise_claims owes free), claimsTaken_eq _ s,
      fun k => ⟨fun claims => ?_, fun at_q settling => ?_, fun no still => ?_⟩, ?_, fun p ne => ?_, fun k claims => ?_⟩
    · rw [site_claimsTaken, if_pos (mem_owedClaims_iff.2 claims)]
      rfl
    · have no : k ∉ owedClaims s (quadOf i) := fun m => by
        obtain ⟨-, vacant, -⟩ := mem_owedClaims_iff.1 m
        rw [settling] at vacant
        cases vacant
      rw [site_claimsTaken, if_neg no, if_pos at_q, reloadSettle_eq, if_pos settling]
    · rw [site_claimsTaken, if_neg fun m => no (mem_owedClaims_iff.1 m), reload_eq, if_neg still]
    · rw [quietOf_claimsTaken, if_pos rfl]
      rfl
    · rw [quietOf_claimsTaken, if_neg ne]
    · have stays : (claimsTaken (quadOf i) s).pins.resetn = true := by
        rw [claimsTaken_eq]
        exact running
      exact (occurs_running stays).trans (congrArg Host.Outcome.next (contactRise_claimsTaken claims))

end Sys2Proof.Machine
end

section
/-!
SUPPORT. Quad switch events at the attached lanes (R12, R99).
-/
namespace Sys2Proof.Machine

/-! ### One lane takes the event (R99) -/

section
variable {named : List Site} {cause : SwitchCause} {l : Lane} {i : Site} {s : State}

/-- A lane that measures and does not reduce takes switch events (R99). -/
def TakesSwitch (c : LaneContext) : Prop := isMeasuring c.state = true ∧ c.state ≠ .reducing

theorem TakesSwitch.passes {c : LaneContext} (h : TakesSwitch c) :
    (!isMeasuring c.state || c.state == .reducing) = false := by
  rw [h.1, beq_eq_false_iff_ne.2 h.2]
  rfl

theorem takeSwitchEvent_of_not (h : ¬ TakesSwitch (s.lane l)) : takeSwitchEvent named cause l i s = s := by
  refine if_pos ?_
  rw [Bool.or_eq_true, Bool.not_eq_true', beq_iff_eq]
  by_contra neither
  rw [not_or, Bool.not_eq_false] at neither
  exact h neither

theorem takeSwitchEvent_own {code : TermCode} (h : TakesSwitch (s.lane l)) (own : i ∈ named)
    (m : (s.lane l).run.kind = some .measure) (ends : ownSiteCode cause = some code) :
    takeSwitchEvent named cause l i s = laneEnd l (bareEnd code (s.lane l).run.coarse) .idle s := by
  simp only [takeSwitchEvent, h.passes, Bool.false_eq_true, if_false, List.contains_iff_mem, if_pos own, m, ends]

/-- An event at the lane's own site leaves a CHECK job, and a cause without a code leaves any. -/
theorem takeSwitchEvent_own_kept (own : i ∈ named)
    (no : (s.lane l).run.kind ≠ some .measure ∨ ownSiteCode cause = none) :
    takeSwitchEvent named cause l i s = s := by
  simp only [takeSwitchEvent, List.contains_iff_mem, if_pos own]
  split
  · rfl
  · split
    · rename_i m ends
      rcases no with no | no
      · exact absurd m no
      · rw [no] at ends; cases ends
    · rfl

theorem takeSwitchEvent_other (h : TakesSwitch (s.lane l)) (other : i ∉ named) (c : cause ≠ .restartOff) :
    takeSwitchEvent named cause l i s = giveBack l .disturbed .idle s := by
  simp only [takeSwitchEvent, h.passes, Bool.false_eq_true, if_false, List.contains_iff_mem, if_neg other, if_neg c]

theorem takeSwitchEvent_restartOff : takeSwitchEvent named .restartOff l i s = s := by
  by_cases own : i ∈ named
  · exact takeSwitchEvent_own_kept own (.inr rfl)
  · simp only [takeSwitchEvent, List.contains_iff_mem, if_neg own, if_true, ite_self]

end

/-! ### Which lanes an event reaches -/

/-- The event reaches a lane in this context: on the row for its own site, or for another site of the quad (R99). -/
def SwitchReaches (q : Quad) (named : List Site) (cause : SwitchCause) (c : LaneContext) : Prop :=
  isMeasuring c.state = true ∧ c.state ≠ .reducing ∧ ∃ i, c.run.site = some i ∧ quadOf i = q
    ∧ ((i ∈ named ∧ c.run.kind = some .measure ∧ (cause = .powerOff ∨ cause = .contactFall ∨ cause = .faultTrip))
      ∨ (i ∉ named ∧ cause ≠ .restartOff))

theorem ownSiteCode_eq_none {cause : SwitchCause} :
    ownSiteCode cause = none ↔ ¬ (cause = .powerOff ∨ cause = .contactFall ∨ cause = .faultTrip) := by
  cases cause <;> simp [ownSiteCode]

/-- A lane's job goes at an event: it ends bare, or is given back. -/
def JobGoes (l : Lane) (s t : State) : Prop :=
  (∃ code, t = laneEnd l (bareEnd code (s.lane l).run.coarse) .idle s) ∨ t = giveBack l .disturbed .idle s

theorem announceSwitch_of_reaches {q : Quad} {named : List Site} {cause : SwitchCause} {s : State} {l : Lane}
    (h : SwitchReaches q named cause (s.lane l)) :
    (∃ i, (s.lane l).run.site = some i ∧ quadOf i = q) ∧ JobGoes l s (announceSwitch q named cause s l) := by
  obtain ⟨measuring, taking, i, at_i, at_q, row⟩ := h
  refine ⟨⟨i, at_i, at_q⟩, ?_⟩
  have event : announceSwitch q named cause s l = takeSwitchEvent named cause l i s := by
    simp only [announceSwitch, at_i, if_pos at_q]
  rw [event]
  rcases row with ⟨own, m, off⟩ | ⟨other, c⟩
  · obtain ⟨code, ends⟩ := Option.ne_none_iff_exists'.1 fun none => ownSiteCode_eq_none.1 none off
    exact .inl ⟨code, takeSwitchEvent_own ⟨measuring, taking⟩ own m ends⟩
  · exact .inr (takeSwitchEvent_other ⟨measuring, taking⟩ other c)

theorem announceSwitch_of_not {q : Quad} {named : List Site} {cause : SwitchCause} {s : State} {l : Lane}
    (h : ¬ SwitchReaches q named cause (s.lane l)) : announceSwitch q named cause s l = s := by
  unfold announceSwitch
  split
  · rfl
  · rename_i i at_i
    split
    · rename_i at_q
      by_cases taking : TakesSwitch (s.lane l)
      · by_cases own : i ∈ named
        · refine takeSwitchEvent_own_kept own ?_
          by_contra both
          rw [not_or, not_not, ownSiteCode_eq_none, not_not] at both
          exact h ⟨taking.1, taking.2, i, at_i, at_q, .inl ⟨own, both⟩⟩
        · by_cases c : cause = .restartOff
          · rw [c]
            exact takeSwitchEvent_restartOff
          · exact absurd ⟨taking.1, taking.2, i, at_i, at_q, .inr ⟨own, c⟩⟩ h
      · exact takeSwitchEvent_of_not taking
    · rfl

/-! ### A job that goes at an event -/

/-- What comes before the detach of a job that goes at an event: no path is written, and the lane keeps its ring and
its captured count. -/
structure BareBefore (l : Lane) (s u : State) : Prop extends BeforeDetach s u where
  only : OnlyWork s u
  paths : u.paths = s.paths
  others : ∀ m, m ≠ l → u.lane m = s.lane m
  ring : (u.lane l).ring = (s.lane l).ring
  captured : (u.lane l).captured = (s.lane l).captured

theorem BareBefore.rfl {l : Lane} {s : State} : BareBefore l s s :=
  ⟨.rfl, .rfl, Eq.refl _, fun _ _ => Eq.refl _, Eq.refl _, Eq.refl _⟩

theorem writeCheckedPath_bareEnd (j : Job) (code : TermCode) (freq : Option Int) (s : State) :
    writeCheckedPath j (bareEnd code freq) s = s := by
  simp [writeCheckedPath, bareEnd]

theorem ring_setHold (l : Lane) (j : Job) (dest : LaneState) (s : State) :
    ((setHold l j dest s).lane l).ring = (s.lane l).ring
      ∧ ((setHold l j dest s).lane l).captured = (s.lane l).captured := by
  unfold setHold
  split
  · rw [lane_modLane_self]
    exact ⟨rfl, rfl⟩
  · exact ⟨rfl, rfl⟩

theorem endJob_bare (l : Lane) (j : Job) (code : TermCode) (freq : Option Int) (dest : LaneState) (s : State) :
    ∃ u, BareBefore l s u ∧ endJob l j (bareEnd code freq) dest s = leave l dest (detach l u) := by
  have deposited : endDeposit l j (bareEnd code freq) s
      = deposit j (handedBy s l (bareEnd code freq)) (removeJob j.id s) := by
    rw [endDeposit, writeCheckedPath_bareEnd]
  have lane (m : Lane) := lane_of_lanes (lanes_endDeposit l j (bareEnd code freq) s) m
  obtain ⟨ring, captured⟩ := ring_setHold l j dest (endDeposit l j (bareEnd code freq) s)
  have only : OnlyWork s (setHold l j dest (endDeposit l j (bareEnd code freq) s)) := by
    rw [deposited]
    exact ((onlyWork_removeJob j.id s).trans (onlyWork_deposit j _ _)).trans
      (onlyWork_of_jc (keepsRest_setHold l j dest _) (jc_setHold l j dest _))
  refine ⟨setHold l j dest (endDeposit l j (bareEnd code freq) s), ⟨⟨?_, ?_, fun m => ?_, only.rest⟩, only, ?_,
    fun m ne => ?_, ?_, ?_⟩, rfl⟩
  · exact (onlyNotices_endDeposit l j _ s).trans (onlyNotices_of_sites (sites_setHold l j dest _))
  · rw [quiet_setHold, deposited, quiet_deposit]
    rfl
  · rw [run_setHold, lane]
  · rw [paths_setHold, deposited, paths_deposit]
    rfl
  · rw [lane_setHold_of_ne j dest _ ne, lane]
  · rw [ring, lane]
  · rw [captured, lane]

theorem JobGoes.bare {l : Lane} {s t : State} (h : JobGoes l s t) :
    ∃ u, BareBefore l s u ∧ t = leave l .idle (detach l u) := by
  rcases h with ⟨code, rfl⟩ | rfl
  · unfold laneEnd
    split
    · exact ⟨s, .rfl, rfl⟩
    · exact endJob_bare l _ code _ .idle s
  · unfold giveBack
    split
    · exact ⟨s, .rfl, rfl⟩
    · split
      · exact endJob_bare l _ _ _ .idle s
      · exact ⟨requeueEntry .disturbed _ s, ⟨⟨onlyNotices_of_sites rfl, rfl, fun _ => rfl,
          keepsRest_requeueEntry .disturbed _ s⟩, ⟨keepsRest_requeueEntry .disturbed _ s, rfl⟩, rfl, fun _ _ => rfl, rfl,
          rfl⟩, rfl⟩

/-! ### What an event leaves outside its quad -/

/-- Outside a quad the sites take notices only and the quiet countdowns stand; the quad's own may be reloaded. -/
structure WithinQuad (q : Quad) (s t : State) : Prop where
  only : OnlyWork s t
  paths : t.paths = s.paths
  quiet : t.quietOf q = s.quietOf q ∨ t.quietOf q = .load s.settings.quietWindow
  quiet_of_ne : ∀ p, p ≠ q → t.quietOf p = s.quietOf p
  sites : ∀ k, quadOf k ≠ q → t.site k = { s.site k with
    lastBin := (t.site k).lastBin, lastJobId := (t.site k).lastJobId, completed := (t.site k).completed }

theorem WithinQuad.rfl {q : Quad} {s : State} : WithinQuad q s s :=
  ⟨.rfl, Eq.refl _, .inl (Eq.refl _), fun _ _ => Eq.refl _, fun _ _ => Eq.refl _⟩

theorem OnlyWork.settings {s t : State} (h : OnlyWork s t) : t.settings = s.settings :=
  congrArg LinkPort.settings h.rest.link

theorem WithinQuad.trans {q : Quad} {s t u : State} (h : WithinQuad q s t) (k : WithinQuad q t u) :
    WithinQuad q s u := by
  refine ⟨h.only.trans k.only, k.paths.trans h.paths, ?_, fun p ne => (k.quiet_of_ne p ne).trans (h.quiet_of_ne p ne),
    fun i ne => by rw [k.sites i ne, h.sites i ne]⟩
  rcases k.quiet with e | e
  · rw [e]
    exact h.quiet
  · exact .inr (by rw [e, h.only.settings])

theorem quietOf_congr {s t : State} (h : t.quiet = s.quiet) (p : Quad) : t.quietOf p = s.quietOf p :=
  congrArg (fun v : Vector Countdown 4 => v[p]) h

theorem onlyWork_of_keeps {s t : State} (rest : KeepsRest s t) (work : KeepsWork s t) : OnlyWork s t :=
  onlyWork_of_jc rest work.jc

theorem withinQuad_release (q : Quad) (s : State) : WithinQuad q s (release q s) := by
  by_cases idle : quadAttached s q = true ∨ quadPending s q = false
  · rw [release_of_not idle]
    exact .rfl
  · rw [not_or, Bool.not_eq_true, Bool.not_eq_false] at idle
    obtain ⟨free, pending⟩ := idle
    have released := release_of free pending
    refine ⟨onlyWork_of_keeps (keepsRest_release q s) (keepsWork_release q s), (keepsWork_release q s).paths, .inr ?_,
      fun p ne => ?_, fun k ne => ?_⟩
    · rw [released, quietOf_switchOn, if_pos rfl]
    · rw [released, quietOf_switchOn, if_neg ne]
    · rw [site_release_of free pending, if_neg fun c => ne c.1, if_neg ne]

theorem withinQuad_disturbQuad (q : Quad) (s : State) : WithinQuad q s (disturbQuad q s) := by
  have work := keepsWork_disturbQuad q s
  refine ⟨onlyWork_of_keeps (keepsRest_disturbQuad q s) work, work.paths, .inr ?_, fun p ne => ?_, fun k ne => ?_⟩
  · rw [quietOf_disturbQuad, if_pos rfl]
  · rw [quietOf_disturbQuad, if_neg ne]
  · rw [site_disturbQuad, if_neg ne]

theorem JobGoes.withinQuad {l : Lane} {s t : State} {i : Site} (h : JobGoes l s t)
    (at_i : (s.lane l).run.site = some i) : WithinQuad (quadOf i) s t := by
  obtain ⟨u, before, rfl⟩ := h.bare
  have attached : (u.lane l).run.site = some i := by rw [before.run, at_i]
  have left : WithinQuad (quadOf i) u (detach l u) := by
    rw [detach_of_some attached]
    refine .trans ⟨onlyWork_of_keeps (keepsRest_modSite u i _) (keepsWork_modSite u i _), rfl, .inl rfl, fun _ _ => rfl,
      fun k ne => ?_⟩ (withinQuad_release (quadOf i) _)
    rw [site_modSite_of_ne u unattached fun e => ne (congrArg quadOf e)]
  have first : WithinQuad (quadOf i) s u :=
    ⟨before.only, before.paths, .inl (quietOf_congr before.quiet _), fun p _ => quietOf_congr before.quiet p,
      fun k _ => before.notices k⟩
  have last : WithinQuad (quadOf i) (detach l u) (leave l .idle (detach l u)) :=
    ⟨onlyWork_of_jc (keepsRest_leave l .idle _) rfl, rfl, .inl rfl, fun _ _ => rfl, fun _ _ => rfl⟩
  exact first.trans (left.trans last)

theorem withinQuad_announceSwitch (q : Quad) (named : List Site) (cause : SwitchCause) (s : State) (l : Lane) :
    WithinQuad q s (announceSwitch q named cause s l) := by
  by_cases h : SwitchReaches q named cause (s.lane l)
  · obtain ⟨⟨i, at_i, rfl⟩, goes⟩ := announceSwitch_of_reaches h
    exact goes.withinQuad at_i
  · rw [announceSwitch_of_not h]
    exact .rfl

theorem withinQuad_announced (q : Quad) (named : List Site) (cause : SwitchCause) (lanes : List Lane) (s : State) :
    WithinQuad q s (lanes.foldl (announceSwitch q named cause) s) :=
  foldl_related (WithinQuad q) (fun _ => .rfl) (fun _ _ _ => .trans) _ (withinQuad_announceSwitch q named cause) lanes s

/-! ### What an event does at each lane -/

/-- A lane that the event reaches is IDLE without a run, with its ring and captured count; another is as it was. -/
def LaneTakes (q : Quad) (named : List Site) (cause : SwitchCause) (c d : LaneContext) : Prop :=
  (SwitchReaches q named cause c →
      d.state = .idle ∧ d.run = RunState.idle ∧ d.ring = c.ring ∧ d.captured = c.captured)
    ∧ (¬ SwitchReaches q named cause c → d = c)

theorem lane_announceSwitch_of_ne {q : Quad} {named : List Site} {cause : SwitchCause} {s : State} {l m : Lane}
    (ne : m ≠ l) : (announceSwitch q named cause s l).lane m = s.lane m := by
  by_cases h : SwitchReaches q named cause (s.lane l)
  · obtain ⟨-, goes⟩ := announceSwitch_of_reaches h
    obtain ⟨u, before, e⟩ := goes.bare
    rw [e, lane_leave_detach, if_neg ne, before.others m ne]
  · rw [announceSwitch_of_not h]

theorem laneTakes_announceSwitch (q : Quad) (named : List Site) (cause : SwitchCause) (s : State) (l : Lane) :
    LaneTakes q named cause (s.lane l) ((announceSwitch q named cause s l).lane l) := by
  refine ⟨fun h => ?_, fun h => by rw [announceSwitch_of_not h]⟩
  obtain ⟨-, goes⟩ := announceSwitch_of_reaches h
  obtain ⟨u, before, e⟩ := goes.bare
  rw [e, lane_leave_detach, if_pos rfl]
  exact ⟨rfl, rfl, before.ring, before.captured⟩

theorem lane_announced_of_not_mem {q : Quad} {named : List Site} {cause : SwitchCause} {lanes : List Lane} {l : Lane}
    (h : l ∉ lanes) (s : State) : (lanes.foldl (announceSwitch q named cause) s).lane l = s.lane l := by
  induction lanes generalizing s with
  | nil => rfl
  | cons m rest ih =>
    rw [List.mem_cons, not_or] at h
    rw [List.foldl_cons, ih h.2, lane_announceSwitch_of_ne h.1]

/-- Each lane takes the event once, in the context it had before. -/
theorem laneTakes_announced {q : Quad} {named : List Site} {cause : SwitchCause} {lanes : List Lane} (once : lanes.Nodup)
    {l : Lane} (h : l ∈ lanes) (s : State) :
    LaneTakes q named cause (s.lane l) ((lanes.foldl (announceSwitch q named cause) s).lane l) := by
  induction lanes generalizing s with
  | nil => cases h
  | cons m rest ih =>
    rw [List.nodup_cons] at once
    rw [List.foldl_cons]
    by_cases e : l = m
    · subst e
      rw [lane_announced_of_not_mem once.1]
      exact laneTakes_announceSwitch q named cause s l
    · have kept : (announceSwitch q named cause s m).lane l = s.lane l := lane_announceSwitch_of_ne e
      rw [← kept]
      exact ih once.2 ((List.mem_cons.1 h).resolve_left e) _

/-- Settles O45: the quad is disturbed, then each lane takes the event once; outside the quad only notices come. -/
theorem switchEventReachesLanes : Obligations.SwitchEventReachesLanes := by
  unfold Obligations.SwitchEventReachesLanes
  refine ⟨fun s q named cause => ?_, fun s named l i => ?_⟩
  · have disturbed := withinQuad_disturbQuad q s
    have announced := withinQuad_announced q named cause (lanesInOrder s.laneOrder) (disturbQuad q s)
    have whole : WithinQuad q s (quadEvent q named cause s) := disturbed.trans announced
    have loaded : (disturbQuad q s).quietOf q = .load s.settings.quietWindow := by
      rw [quietOf_disturbQuad, if_pos rfl]
    refine ⟨⟨disturbQuad q s, disturbQuad_eq q s, fun i => ?_, loaded, disturbed.quiet_of_ne, rfl⟩, ?_,
      whole.quiet_of_ne, whole.sites, fun l => ?_, ?_⟩
    · rw [site_disturbQuad, reload_eq]
    · rcases announced.quiet with e | e
      · exact e.trans loaded
      · exact e.trans (by rw [disturbed.only.settings]; rfl)
    · have kept : (disturbQuad q s).lane l = s.lane l := lane_of_lanes (keepsWork_disturbQuad q s).lanes l
      have order := lanesInOrder_perm s.laneOrder
      have takes := laneTakes_announced (q := q) (named := named) (cause := cause)
        (order.nodup_iff.2 (List.nodup_finRange 4)) (order.mem_iff.2 (List.mem_finRange l)) (disturbQuad q s)
      rw [kept] at takes
      exact takes
    · rw [← whole.paths]
      exact whole.only.eq
  · have own {cause : SwitchCause} {code : TermCode} (h : TakesSwitch (s.lane l)) (ends : ownSiteCode cause = some code)
        (at_i : i ∈ named) (m : (s.lane l).run.kind = some .measure) := takeSwitchEvent_own h at_i m ends
    refine ⟨fun h cause => takeSwitchEvent_of_not fun ⟨measuring, taking⟩ => ?_,
      fun at_i m cause => takeSwitchEvent_own_kept at_i (.inl m), fun at_i => takeSwitchEvent_own_kept at_i (.inr rfl),
      takeSwitchEvent_restartOff, fun measuring taking => ⟨own ⟨measuring, taking⟩ rfl, own ⟨measuring, taking⟩ rfl,
        own ⟨measuring, taking⟩ rfl, fun cause other c => takeSwitchEvent_other ⟨measuring, taking⟩ other c⟩⟩
    rcases h with h | h
    · rw [h] at measuring; cases measuring
    · exact taking h

end Sys2Proof.Machine
end

section
/-!
SUPPORT. The requests of the Reference Monitor and the lanes, and the rows of a calibration (R29, R32 to R39).
-/
namespace Sys2Proof.Machine

/-! ### Changes of one lane -/

theorem modLane_congr {s : State} {l : Lane} {f g : LaneContext → LaneContext} (h : f (s.lane l) = g (s.lane l)) :
    s.modLane l f = s.modLane l g := by
  rw [State.modLane, State.modLane, show f s.lanes[l] = g s.lanes[l] from h]

/-- Two changes of one lane are one. -/
@[simp] theorem modLane_modLane (s : State) (l : Lane) (f g : LaneContext → LaneContext) :
    (s.modLane l f).modLane l g = s.modLane l fun c => g (f c) := by
  simp [State.modLane]

theorem startCalibration_modLane (s : State) (l : Lane) (f : LaneContext → LaneContext) :
    startCalibration l (s.modLane l f)
      = s.modLane l fun c => { f c with state := .calibrating, calLeft := ⟨25, false⟩ } :=
  modLane_modLane s l f _

/-! ### QUERY TIMEBASE, RECALIBRATE and LANE MODE ENABLE (R29, R38, R39) -/

/-- Settles O16: the owner answers from the reference record. -/
theorem queryTimebaseReports : Obligations.QueryTimebaseReports := by
  unfold Obligations.QueryTimebaseReports
  exact fun s tag ht => request_answers ht rfl

theorem reqRecalibrate_bad {n : Nat} (h : 4 ≤ n) (s : State) : reqRecalibrate n s = (refuse .badField, s) := by
  rw [reqRecalibrate, laneOf?_none h]

/-- RECALIBRATE of a lane, by its state. -/
theorem reqRecalibrate_val (l : Lane) (s : State) : reqRecalibrate l.val s =
    match (s.lane l).state with
    | .idle | .uncalibrated =>
      if s.ref.state = .locked then laneStateReply l (startCalibration l s) else (refuse .state, s)
    | .faulted =>
      if s.ref.state = .locked then
        laneStateReply l (startCalibration l (s.modLane l fun c => { c with calFails := 0 }))
      else (refuse .state, s)
    | .disabled => (refuse .state, s)
    | .calibrating | .attaching | .acquiring | .discarding | .capturing | .reducing => (refuse .busy, s) := by
  rw [reqRecalibrate, laneOf?_val] <;> rfl

/-- The reply of a started calibration carries CALIBRATING (R38). -/
theorem laneStateReply_startCalibration (l : Lane) (s : State) :
    laneStateReply l (startCalibration l s) = (okWith [4], startCalibration l s) := by
  rw [laneStateReply, startCalibration, lane_modLane_self]
  rfl

/-- Settles O18: RECALIBRATE by the lane's state, a calibration starting only under a LOCKED reference. -/
theorem recalibrateByState : Obligations.RecalibrateByState := by
  unfold Obligations.RecalibrateByState
  refine fun s tag lane ht => ⟨fun h => request_answers ht (reqRecalibrate_bad h _), ?_⟩
  rintro l rfl
  have answer := reqRecalibrate_val l (setFollow none s)
  simp only [laneStateReply_startCalibration] at answer
  simp only [startCalibration_modLane] at answer
  rw [show (setFollow none s).lane l = s.lane l from rfl] at answer
  split <;> rename_i e <;> rw [e] at answer
  case h_4 => exact request_answers ht answer
  case h_1 | h_2 | h_3 =>
    exact ⟨fun locked => request_answers ht (answer.trans (if_pos locked)),
      fun unlocked => request_answers ht (answer.trans (if_neg unlocked))⟩
  all_goals exact request_answers ht answer

theorem reqLaneEnable_bad {n : Nat} (h : 4 ≤ n) (s : State) : reqLaneEnable n s = (refuse .badField, s) := by
  rw [reqLaneEnable, laneOf?_none h]

/-- LANE MODE ENABLE of a lane: only in DISABLED. -/
theorem reqLaneEnable_val (l : Lane) (s : State) : reqLaneEnable l.val s =
    if (s.lane l).state = .disabled then
      laneStateReply l (if s.ref.state = .locked then
        startCalibration l (s.modLane l fun c => { c with calFails := 0, state := .uncalibrated })
        else s.modLane l fun c => { c with calFails := 0, state := .uncalibrated })
    else laneStateReply l s := by
  rw [reqLaneEnable, laneOf?_val]

/-! ### The rows of a calibration (R32 to R36) -/

theorem calibrationPasses_iff {gain : Nat} {spread : Rat} :
    calibrationPasses gain spread = true ↔ 16 ≤ gain ∧ gain ≤ 1007 ∧ spread ≤ 500 := by
  simp only [calibrationPasses, Bool.and_eq_true, decide_eq_true_eq, and_assoc]
  rfl

section
variable {s : State} {l : Lane} {gain : Nat} {spread : Rat}

theorem calibrationComplete_pass (calibrating : (s.lane l).state = .calibrating) (due : (s.lane l).calLeft.due = true)
    (pass : calibrationPasses gain spread = true) : calibrationComplete l gain spread s = s.modLane l fun c =>
      passed s.settings.calPeriod gain { c with lastCal := some ⟨s.now, true, gain⟩ } := by
  simp [calibrationComplete, calibrating, due, pass]

theorem calibrationComplete_again (calibrating : (s.lane l).state = .calibrating) (due : (s.lane l).calLeft.due = true)
    (fail : calibrationPasses gain spread = false) (first : (s.lane l).calFails = 0) :
    calibrationComplete l gain spread s = s.modLane l fun c =>
      { c with lastCal := some ⟨s.now, false, gain⟩, calFails := 1, state := .calibrating, calLeft := ⟨25, false⟩ } := by
  simp [calibrationComplete, calibrating, due, fail, first, startCalibration_modLane]

theorem calibrationComplete_faults (calibrating : (s.lane l).state = .calibrating) (due : (s.lane l).calLeft.due = true)
    (fail : calibrationPasses gain spread = false) (again : (s.lane l).calFails ≠ 0) :
    calibrationComplete l gain spread s = raiseLaneFaulted l (s.modLane l fun c =>
      { c with lastCal := some ⟨s.now, false, gain⟩, calFails := 2, state := .faulted, calLeft := .idle }) := by
  simp [calibrationComplete, calibrating, due, fail, again]

/-- The due count at an expiry of the cal counter, and the counter reloaded (R32). -/
def owesMore (s : State) (c : LaneContext) : LaneContext :=
  { c with owed := min 3 (c.owed + 1), calCounter := .load s.settings.calPeriod }

theorem calCounterExpiry_owes (runs : counterRuns (s.lane l).state = true) (due : (s.lane l).calCounter.due = true)
    (few : (s.lane l).owed < 2) : calCounterExpiry l s = s.modLane l (owesMore s) := by
  have : ¬ 3 ≤ (s.lane l).owed + 1 := by omega
  simp only [calCounterExpiry, runs, due, this, Bool.and_self, if_true, if_false]
  rfl

theorem calCounterExpiry_urgent (runs : counterRuns (s.lane l).state = true) (due : (s.lane l).calCounter.due = true)
    (many : 2 ≤ (s.lane l).owed) : calCounterExpiry l s = startCalibration l
      (if isMeasuring (s.lane l).state then giveBack l .preempted .calibrating (s.modLane l (owesMore s))
       else s.modLane l (owesMore s)) := by
  have : 3 ≤ (s.lane l).owed + 1 := by omega
  simp only [calCounterExpiry, runs, due, this, Bool.and_self, if_true]
  rfl

theorem nothingToOffer_iff : nothingToOffer s l = true ↔ ∀ j ∈ s.jobs, mayStart s j l = false := by
  simp [nothingToOffer]

end

/-- Settles O48: the pass, the first failure and the failure after it, each by its row of `calibrationComplete`. -/
theorem calibrationCompletes : Obligations.CalibrationCompletes := by
  unfold Obligations.CalibrationCompletes
  intro s l gain spread running c good done calibrating due
  have row : done = .next (calibrationComplete l gain spread s) := occurs_running running
  have fails (bad : ¬ good) : calibrationPasses gain spread = false :=
    eq_false_of_ne_true fun p => bad (calibrationPasses_iff.1 p)
  refine ⟨fun pass => ?_, fun bad first => ?_, fun bad again => ?_⟩
  · rw [row, calibrationComplete_pass calibrating due (calibrationPasses_iff.2 pass)]
    rfl
  · rw [row, calibrationComplete_again calibrating due (fails bad) first]
    rfl
  · rw [row, calibrationComplete_faults calibrating due (fails bad) again]
    rfl

/-- Settles O47: the expiry below and at the third due count, and the quiet-time calibration. -/
theorem dueCalibrationsStart : Obligations.DueCalibrationsStart := by
  unfold Obligations.DueCalibrationsStart
  intro s l running c next start
  have expiry : exec (.calCounterExpiry l) s = .next (calCounterExpiry l s) := occurs_running running
  have quiet : exec (.quietTimeCalibration l) s = .next (quietTimeCalibration l s) := occurs_running running
  have third (many : 2 ≤ c.owed) : owesMore s c = next 3 c := by
    rw [owesMore, show min 3 (c.owed + 1) = 3 by omega]
    rfl
  refine ⟨fun due runs few => ?_, fun due idle many => ?_, fun due measuring many => ?_, fun idle owes none => ?_,
    fun none => ?_⟩
  · rw [expiry, calCounterExpiry_owes (counterRuns_iff.2 runs) due few]
    refine congrArg Host.Outcome.next (modLane_congr ?_)
    show owesMore s c = next (c.owed + 1) c
    rw [owesMore, show min 3 (c.owed + 1) = c.owed + 1 by omega]
    rfl
  · rw [expiry, calCounterExpiry_urgent (counterRuns_iff.2 (.inl idle)) due many, show (s.lane l).state = .idle from idle]
    rw [if_neg (by decide), startCalibration_modLane]
    refine congrArg Host.Outcome.next (modLane_congr ?_)
    show ({ owesMore s c with state := .calibrating, calLeft := ⟨25, false⟩ } : LaneContext) = start (next 3 c)
    rw [third many]
  · rw [expiry, calCounterExpiry_urgent (counterRuns_iff.2 (.inr measuring)) due many, if_pos measuring,
      modLane_congr (third many)]
    rfl
  · have offered : nothingToOffer s l = true := nothingToOffer_iff.2 none
    rw [quiet, quietTimeCalibration, if_pos ⟨idle, owes, offered⟩]
    rfl
  · rw [quiet, quietTimeCalibration, if_neg]
    rintro ⟨-, owes, offered⟩
    rcases none with ⟨j, hj, may⟩ | none
    · rw [nothingToOffer_iff.1 offered j hj] at may
      cases may
    · exact absurd (none ▸ owes) (by decide)

end Sys2Proof.Machine
end

section
/-!
SUPPORT. A lane that its job leaves, at an end or a giving back (R73, R94, R96, R97), and a change that reaches the lanes one
after another (log 7).
-/
namespace Sys2Proof.Machine

/-! ### A lane that its job leaves -/

/-- A lane's context once its job has left it for a state: the run cleared, and the lane held where it keeps a ring. -/
inductive LeftFor (dest : LaneState) (c : LaneContext) : LaneContext → Prop
  | bare : LeftFor dest c { c with run := .idle, state := dest }
  | held (limit : Nat) (ring : c.ring.isSome = true) (on : dest ≠ .disabled) :
    LeftFor dest c { c with run := .idle, state := dest, hold := true, holdLeft := .load limit }

theorem leftFor_endJob (l : Lane) (j : Job) (e : EndReport) (dest : LaneState) (s : State) :
    LeftFor dest (s.lane l) ((endJob l j e dest s).lane l) := by
  obtain ⟨holds, clears⟩ := lane_endJob l j e dest s
  by_cases due : holdDue s l j dest
  · rw [holds due]
    obtain ⟨-, ⟨r, ring, -⟩, on⟩ := due
    exact .held _ (by rw [ring]; rfl) on
  · rw [clears due]
    exact .bare

theorem lane_leave_detach_self (l : Lane) (dest : LaneState) (s : State) :
    (leave l dest (detach l s)).lane l = { s.lane l with run := .idle, state := dest } := by
  rw [lane_leave_detach, if_pos rfl]

theorem leftFor_laneEnd (l : Lane) (e : EndReport) (dest : LaneState) (s : State) :
    LeftFor dest (s.lane l) ((laneEnd l e dest s).lane l) := by
  unfold laneEnd
  split
  · rw [lane_leave_detach_self]
    exact .bare
  · exact leftFor_endJob l _ e dest s

theorem leftFor_giveBack (l : Lane) (cause : RequeueCause) (dest : LaneState) (s : State) :
    LeftFor dest (s.lane l) ((giveBack l cause dest s).lane l) := by
  unfold giveBack
  split
  · rw [lane_leave_detach_self]
    exact .bare
  · split
    · exact leftFor_endJob l _ _ dest s
    · rw [lane_leave_detach_self]
      exact .bare

theorem lane_laneEnd_of_ne {l m : Lane} (e : EndReport) (dest : LaneState) (s : State) (ne : m ≠ l) :
    (laneEnd l e dest s).lane m = s.lane m := by
  unfold laneEnd
  split
  · rw [lane_leave_detach, if_neg ne]
  · exact lane_endJob_of_ne _ e dest s ne

theorem lane_giveBack_of_ne {l m : Lane} (cause : RequeueCause) (dest : LaneState) (s : State) (ne : m ≠ l) :
    (giveBack l cause dest s).lane m = s.lane m := by
  unfold giveBack
  split
  · rw [lane_leave_detach, if_neg ne]
  · split
    · exact lane_endJob_of_ne _ _ dest s ne
    · rw [lane_leave_detach, if_neg ne]
      rfl

/-! ### A change that reaches the lanes one after another -/

/-- A fold of changes of one lane each leaves a lane outside the list. -/
theorem lane_foldl_of_not_mem {f : State → Lane → State} (other : ∀ s {l m}, m ≠ l → (f s l).lane m = s.lane m)
    {lanes : List Lane} {l : Lane} (h : l ∉ lanes) (s : State) : (lanes.foldl f s).lane l = s.lane l := by
  induction lanes generalizing s with
  | nil => rfl
  | cons m rest ih =>
    rw [List.mem_cons, not_or] at h
    rw [List.foldl_cons, ih h.2, other s h.1]

/-- A fold of changes of one lane each reaches each lane of the list once, in the context it had before. -/
theorem lane_foldl_once {f : State → Lane → State} (other : ∀ s {l m}, m ≠ l → (f s l).lane m = s.lane m)
    {lanes : List Lane} (once : lanes.Nodup) {l : Lane} (h : l ∈ lanes) (s : State) :
    ∃ u, u.lane l = s.lane l ∧ (lanes.foldl f s).lane l = (f u l).lane l := by
  induction lanes generalizing s with
  | nil => cases h
  | cons m rest ih =>
    rw [List.nodup_cons] at once
    rw [List.foldl_cons]
    rcases List.mem_cons.1 h with rfl | h
    · exact ⟨s, rfl, lane_foldl_of_not_mem other once.1 _⟩
    · obtain ⟨u, same, last⟩ := ih once.2 h (f s m)
      have ne : l ≠ m := fun e => once.1 (e ▸ h)
      exact ⟨u, same.trans (other s ne), last⟩

/-- Every order of the lanes reaches each lane once. -/
theorem lane_foldl_lanesInOrder {f : State → Lane → State} (other : ∀ s {l m}, m ≠ l → (f s l).lane m = s.lane m)
    (order : Fin 24) (l : Lane) (s : State) :
    ∃ u, u.lane l = s.lane l ∧ ((lanesInOrder order).foldl f s).lane l = (f u l).lane l :=
  lane_foldl_once other ((lanesInOrder_perm order).nodup_iff.2 (List.nodup_finRange 4))
    ((lanesInOrder_perm order).mem_iff.2 (List.mem_finRange l)) s

end Sys2Proof.Machine
end

section
/-!
SUPPORT. The end of a check interval: the monitor by the table of R26, then the lanes at the entry into LOCKED and at the loss
of the reference (R25 to R28, R37).
-/
namespace Sys2Proof.Machine

theorem inCoarseWindow_iff {edges : Nat} : inCoarseWindow edges = true ↔ 9800 ≤ edges ∧ edges ≤ 10200 := by
  simp only [inCoarseWindow, Bool.and_eq_true, decide_eq_true_eq]
  rfl

/-! ### One lane -/

theorem lane_loseReference_of_ne (s : State) {l m : Lane} (ne : m ≠ l) : (loseReference s l).lane m = s.lane m := by
  unfold loseReference
  split
  case h_4 | h_5 => exact lane_modLane_of_ne s _ ne
  case h_1 | h_2 | h_3 => rfl
  all_goals exact lane_giveBack_of_ne _ _ s ne

theorem lane_gainReference_of_ne (s : State) {l m : Lane} (ne : m ≠ l) : (gainReference s l).lane m = s.lane m := by
  unfold gainReference
  split
  · exact lane_modLane_of_ne s _ ne
  · rfl

/-- A lane at the entry into LOCKED (R37). -/
theorem lane_gainReference (s : State) (l : Lane) : (gainReference s l).lane l =
    if (s.lane l).state = .uncalibrated then { s.lane l with state := .calibrating, calLeft := ⟨25, false⟩ }
    else s.lane l := by
  unfold gainReference
  split
  · exact lane_modLane_self s l _
  · rfl

/-- A lane's context at a loss of the reference (R37). -/
def AtLoss (c d : LaneContext) : Prop :=
  match c.state with
  | .disabled | .faulted | .uncalibrated => d = c
  | .idle => d = { c with state := .uncalibrated }
  | .calibrating => d = { c with state := .uncalibrated, calLeft := ⟨0, false⟩ }
  | .attaching | .acquiring | .discarding | .capturing | .reducing => LeftFor .uncalibrated c d

theorem atLoss_loseReference (s : State) (l : Lane) : AtLoss (s.lane l) ((loseReference s l).lane l) := by
  cases e : (s.lane l).state <;> simp only [AtLoss, loseReference, e]
  case idle | calibrating => exact lane_modLane_self s l _
  all_goals exact leftFor_giveBack l .refLost .uncalibrated s

theorem keepsRest_loseReference (s : State) (l : Lane) : KeepsRest s (loseReference s l) := by
  unfold loseReference
  split
  case h_4 | h_5 => exact keepsRest_modLane s l _
  case h_1 | h_2 | h_3 => exact .rfl
  all_goals exact keepsRest_giveBack l _ _ s

/-- Only the contexts of lanes change. -/
def OnlyLanes (s t : State) : Prop := t = { s with lanes := t.lanes }

theorem onlyLanes_gainReference (s : State) (l : Lane) : OnlyLanes s (gainReference s l) := by
  unfold gainReference
  split <;> rfl

theorem onlyLanes_foldl {f : State → Lane → State} (hf : ∀ s l, OnlyLanes s (f s l)) (lanes : List Lane) (s : State) :
    OnlyLanes s (lanes.foldl f s) :=
  foldl_related OnlyLanes (fun _ => rfl) (fun s t u h k => by rw [OnlyLanes, k, h]) f hf lanes s

/-! ### The monitor (R26, R27) -/

section
variable {edges : Nat} {r : Reference}

theorem qualify_noEdge (r : Reference) : qualify 0 r = { r with state := .absent, progress := 0 } := by
  rw [qualify, if_pos rfl]

theorem qualify_outside (some : edges ≠ 0) (bad : inCoarseWindow edges = false) :
    qualify edges r = { r with state := .qualifying, progress := 0 } := by
  rw [qualify, if_neg some, if_pos (by rw [bad]; rfl)]

/-- The in-window intervals up to this one (R26). -/
def goodIntervals (r : Reference) : Nat := (if r.state = .absent then 0 else r.progress) + 1

theorem qualify_within (some : edges ≠ 0) (good : inCoarseWindow edges = true) :
    qualify edges r =
      if 200 ≤ goodIntervals r then { r with state := .locked, progress := 200, source := .refin }
      else { r with state := .qualifying, progress := goodIntervals r } := by
  rw [qualify, if_neg some, if_neg (by rw [good]; decide)]
  rfl

end

/-- The monitor's record with the count taken in, saturating (R25). -/
def countedRef (edges : Nat) (r : Reference) : Reference := { r with lastCheck := min 65535 edges }

section
variable {s : State} {edges : Nat}

theorem checkIntervalEnd_unlocked (unlocked : s.ref.state ≠ .locked)
    (still : (qualify edges (countedRef edges s.ref)).state ≠ .locked) :
    checkIntervalEnd edges s = { s with ref := qualify edges (countedRef edges s.ref) } :=
  (if_neg unlocked).trans (if_neg still)

theorem checkIntervalEnd_locks (unlocked : s.ref.state ≠ .locked)
    (locks : (qualify edges (countedRef edges s.ref)).state = .locked) :
    checkIntervalEnd edges s = (lanesInOrder s.laneOrder).foldl gainReference
      (raiseAlert .reference { s with ref := qualify edges (countedRef edges s.ref) }) :=
  (if_neg unlocked).trans (if_pos locks)

theorem checkIntervalEnd_goesOn (locked : s.ref.state = .locked) (good : inCoarseWindow edges = true) :
    checkIntervalEnd edges s = { s with ref := countedRef edges s.ref } :=
  (if_pos locked).trans (if_pos good)

theorem checkIntervalEnd_loses (locked : s.ref.state = .locked) (bad : inCoarseWindow edges = false) :
    checkIntervalEnd edges s = (lanesInOrder s.laneOrder).foldl loseReference (raiseAlert .reference
      { s with ref := { countedRef edges s.ref with state := .absent, progress := 0, source := .backup } }) :=
  (if_pos locked).trans (if_neg (by rw [bad]; decide))

end

/-! ### The lanes (R37) -/

/-- At the entry into LOCKED every UNCALIBRATED lane starts a calibration, and no other changes. -/
theorem lane_locks (s u : State) (lanes : u.lanes = s.lanes) (l : Lane) :
    ((lanesInOrder s.laneOrder).foldl gainReference u).lane l =
      if (s.lane l).state = .uncalibrated then { s.lane l with state := .calibrating, calLeft := ⟨25, false⟩ }
      else s.lane l := by
  obtain ⟨v, same, last⟩ := lane_foldl_lanesInOrder lane_gainReference_of_ne s.laneOrder l u
  rw [last, lane_gainReference, same, lane_of_lanes lanes]

/-- At a loss every lane goes by the table of R37. -/
theorem atLoss_loses (s u : State) (lanes : u.lanes = s.lanes) (l : Lane) :
    AtLoss (s.lane l) (((lanesInOrder s.laneOrder).foldl loseReference u).lane l) := by
  obtain ⟨v, same, last⟩ := lane_foldl_lanesInOrder lane_loseReference_of_ne s.laneOrder l u
  have lost := atLoss_loseReference v l
  rwa [← last, same, lane_of_lanes lanes] at lost

/-- A lane left for a state keeps all but its run, its state and its hold. -/
theorem LeftFor.eq {dest : LaneState} {c d : LaneContext} (h : LeftFor dest c d) :
    d = { c with state := dest, run := RunState.idle, hold := d.hold, holdLeft := d.holdLeft } := by
  cases h <;> rfl

/-- Settles O46: the table of R26, then the lanes at the entry into LOCKED and at the loss. -/
theorem checkIntervalJudged : Obligations.CheckIntervalJudged := by
  unfold Obligations.CheckIntervalJudged
  intro s edges running good c moved
  have row : exec c s = .next (checkIntervalEnd edges s) := occurs_running running
  have within (h : good) : inCoarseWindow edges = true := inCoarseWindow_iff.2 h
  have outside (h : ¬ good) : inCoarseWindow edges = false := eq_false_of_ne_true fun w => h (inCoarseWindow_iff.1 w)
  have some (h : good) : edges ≠ 0 := fun e => by
    have := h.1
    omega
  refine ⟨fun unlocked => ⟨?_, fun ne bad => ?_, fun h absent => ?_, fun h qualifying few => ?_,
    fun h qualifying enough => ?_⟩, fun locked h => ?_, fun locked bad => ?_⟩
  · rintro rfl
    have q := qualify_noEdge (countedRef 0 s.ref)
    rw [row, checkIntervalEnd_unlocked unlocked (by simp [q]), q]
    rfl
  · have q := qualify_outside (r := countedRef edges s.ref) ne (outside bad)
    rw [row, checkIntervalEnd_unlocked unlocked (by simp [q]), q]
    rfl
  · have first : goodIntervals (countedRef edges s.ref) = 1 := congrArg (· + 1) (if_pos absent)
    have q := qualify_within (r := countedRef edges s.ref) (some h) (within h)
    rw [first, if_neg (by decide)] at q
    rw [row, checkIntervalEnd_unlocked unlocked (by simp [q]), q]
    rfl
  · have next : goodIntervals (countedRef edges s.ref) = s.ref.progress + 1 :=
      congrArg (· + 1) (if_neg (by rw [countedRef, qualifying]; decide))
    have q := qualify_within (r := countedRef edges s.ref) (some h) (within h)
    rw [next, if_neg (Nat.not_le.2 few)] at q
    rw [row, checkIntervalEnd_unlocked unlocked (by simp [q]), q]
    rfl
  · have next : goodIntervals (countedRef edges s.ref) = s.ref.progress + 1 :=
      congrArg (· + 1) (if_neg (by rw [countedRef, qualifying]; decide))
    have q := qualify_within (r := countedRef edges s.ref) (some h) (within h)
    rw [next, if_pos enough] at q
    refine ⟨_, row, ?_⟩
    rw [checkIntervalEnd_locks unlocked (by rw [q]), q]
    exact ⟨onlyLanes_foldl onlyLanes_gainReference _ _, lane_locks s _ rfl⟩
  · rw [row, checkIntervalEnd_goesOn locked (within h), countedRef, Nat.min_eq_right (h.2.trans (by decide))]
  · refine ⟨_, row, ?_⟩
    rw [checkIntervalEnd_loses locked (outside bad)]
    have rest := keepsRest_foldl loseReference keepsRest_loseReference (lanesInOrder s.laneOrder)
      (raiseAlert .reference (moved .absent 0 .backup))
    have lost := atLoss_loses s (raiseAlert .reference (moved .absent 0 .backup)) rfl
    refine ⟨rfl, rest.ref, rest.link, rest.store, rest.pins, rest.pending, fun l => ?_⟩
    have atLoss := lost l
    unfold AtLoss at atLoss
    split <;> rename_i e <;> rw [e] at atLoss
    case h_1 | h_2 | h_3 | h_4 | h_5 => exact atLoss
    all_goals exact LeftFor.eq atLoss

end Sys2Proof.Machine
end

section
/-!
SUPPORT. LANE MODE, and the end of the QUEUED checks on a disabled lane (R39, R75, R76, R103, R130, R152).
-/
namespace Sys2Proof.Machine

/-! ### The end of the QUEUED checks on a lane (R75) -/

/-- Each job that ends in the list has its record made on a state in which only earlier ends have changed anything. -/
theorem record_foldl_endInList (code : TermCode) {gone : List Job} (once : (gone.map (·.handle)).Nodup) {j : Job}
    (hj : j ∈ gone) (s : State) : ∃ u : State, EndsInList s u ∧ (gone.foldl (endInList code) s).slot j.handle =
      .filled (recordOf u j (bareDeposit code (j.lastRun.map (·.lane)) (j.lastRun.map (·.tick)) none)) := by
  induction gone generalizing s with
  | nil => cases hj
  | cons x rest ih =>
    rw [List.map_cons, List.nodup_cons] at once
    rw [List.foldl_cons]
    rcases List.mem_cons.1 hj with rfl | hj
    · refine ⟨removeJob j.id s, ⟨onlyWork_removeJob j.id s, rfl, rfl, rfl⟩, ?_⟩
      rw [slot_foldl_endInList_of_ne code fun y hy e => once.1 (List.mem_map.2 ⟨y, hy, e⟩), endInList, slot_deposit,
        if_pos rfl]
    · obtain ⟨u, ends, slot⟩ := ih once.2 hj (endInList code s x)
      exact ⟨u, (endsInList_endInList code s x).trans ends, slot⟩

/-- The end of CHECK jobs in the list changes no site (R16). -/
theorem sites_foldl_endInList (code : TermCode) {l : Lane} {gone : List Job} (checks : ∀ j ∈ gone, j.work = .check l)
    (s : State) : (gone.foldl (endInList code) s).sites = s.sites := by
  induction gone generalizing s with
  | nil => rfl
  | cons j rest ih =>
    rw [List.foldl_cons, ih fun x hx => checks x (List.mem_cons_of_mem _ hx), endInList,
      sites_deposit_check (checks j List.mem_cons_self)]
    rfl

/-- Of jobs with different ids, those chosen by a test leave the list, and all others stay. -/
theorem jobs_foldl_endInList_filter (code : TermCode) (p : Job → Bool) {s : State}
    (once : (s.jobs.map (·.id)).Nodup) :
    ((s.jobs.filter p).foldl (endInList code) s).jobs = s.jobs.filter fun j => !p j := by
  refine (jobs_foldl_endInList code _ once).trans (List.filter_congr fun x hx => congrArg not ?_)
  rw [Bool.eq_iff_iff, List.contains_iff_mem, List.mem_map]
  refine ⟨fun ⟨y, hy, e⟩ => ?_, fun px => ⟨x, List.mem_filter.2 ⟨hx, px⟩, rfl⟩⟩
  obtain ⟨listed, py⟩ := List.mem_filter.1 hy
  rwa [← job_unique once listed hx e]

theorem path_of_paths {s t : State} (h : t.paths = s.paths) (i : Site) (l : Lane) : t.path i l = s.path i l :=
  congrArg (fun v : Vector PathEntry 64 => v[pathIx i l]) h

/-- The QUEUED checks on a lane end NO_PATH: the first part of LaneModeByState. -/
theorem endChecksOn_ends (s : State) (l : Lane) (fit : SlotsFitJobs s) :
    let gone := s.jobs.filter (queuedCheckOn l)
    let t := endChecksOn l s
    t.jobs = (s.jobs.filter fun j => !queuedCheckOn l j) ∧ t.results.queue = s.results.queue ++ gone.map (·.handle)
      ∧ (∀ j ∈ gone, j.work = .check l ∧ ∃ u, EndsInList s u ∧ t.slot j.handle =
          .filled (recordOf u j (bareDeposit .noPath (j.lastRun.map (·.lane)) (j.lastRun.map (·.tick)) none)))
      ∧ (∀ h, (∀ j ∈ gone, j.handle ≠ h) → t.slot h = s.slot h)
      ∧ t = { s with jc := { s.jc with jobs := t.jobs }, results := t.results } := by
  intro gone t
  have checks : ∀ j ∈ gone, j.work = .check l := fun j hj => by
    have on : queuedCheckOn l j = true := (List.mem_filter.1 hj).2
    simp only [queuedCheckOn, Bool.and_eq_true, beq_iff_eq] at on
    exact on.2
  have sites : t.sites = s.sites := sites_foldl_endInList .noPath checks s
  refine ⟨jobs_foldl_endInList_filter .noPath _ fit.ids, queue_foldl_endInList .noPath gone s,
    fun j hj => ⟨checks j hj, record_foldl_endInList .noPath (fit.handles.sublist (List.filter_sublist.map _)) hj s⟩,
    fun h ne => slot_foldl_endInList_of_ne .noPath ne s, ?_⟩
  have only := (endsInList_foldl .noPath gone s).eq
  rwa [show (gone.foldl (endInList .noPath) s).sites = s.sites from sites] at only

/-! ### LANE MODE DISABLE (R39) -/

theorem reqLaneDisable_bad {n : Nat} (h : 4 ≤ n) (s : State) : reqLaneDisable n s = (refuse .badField, s) := by
  rw [reqLaneDisable, laneOf?_none h]

theorem reqLaneDisable_val (l : Lane) (s : State) : reqLaneDisable l.val s =
    laneStateReply l (if (s.lane l).state = .disabled then s else disableLane l s) := by
  rw [reqLaneDisable, laneOf?_val]

theorem laneStateReply_of {l : Lane} {s : State} {x : LaneState} (h : (s.lane l).state = x) :
    laneStateReply l s = (okWith (be8 x.code), s) := by
  rw [laneStateReply, h]

theorem lanes_endChecksOn (l : Lane) (s : State) : (endChecksOn l s).lanes = s.lanes :=
  (endsInList_foldl .noPath _ s).lanes

theorem lane_disableLane (l : Lane) (s : State) : ((disableLane l s).lane l).state = .disabled := by
  rw [disableLane, lane_of_lanes (lanes_endChecksOn l _), lane_modLane_self]

/-- Settles O19: the QUEUED checks by their fold of ends, then ENABLE and DISABLE by the lane's state. -/
theorem laneModeByState : Obligations.LaneModeByState := by
  unfold Obligations.LaneModeByState
  refine ⟨fun s l fit => ?_, fun s tag lane ht => ⟨fun h => request_answers ht (reqLaneEnable_bad h _), ?_⟩,
    fun s tag lane ht => ⟨fun h => request_answers ht (reqLaneDisable_bad h _), ?_⟩⟩
  · obtain ⟨jobs, queue, records, others, only⟩ := endChecksOn_ends s l fit
    refine ⟨jobs, queue, fun j hj => ?_, others, only⟩
    obtain ⟨work, u, ends, slot⟩ := records j hj
    have rated : (recordOf u j (bareDeposit .noPath (j.lastRun.map (·.lane)) (j.lastRun.map (·.tick)) none)).rating
        = (s.path j.site l).rating := by
      rw [recordOf, work, ← path_of_paths ends.paths]
    exact ⟨_, slot, rfl, work, rfl, rfl, rfl, rfl, congrArg Reference.tick ends.only.rest.ref, rfl, rfl, rfl, rfl, rfl,
      verdictOf_interrupted rfl, rfl, rated, rfl⟩
  · rintro l rfl
    have answer := reqLaneEnable_val l (setFollow none s)
    rw [show (setFollow none s).lane l = s.lane l from rfl] at answer
    refine ⟨fun on => request_answers ht (answer.trans (if_neg on)), fun off unlocked => ?_, fun off locked => ?_⟩
    · have unlocked' : ¬ (setFollow none s).ref.state = .locked := unlocked
      rw [if_pos off, if_neg unlocked', laneStateReply_of (by rw [lane_modLane_self])] at answer
      exact request_answers ht answer
    · have locked' : (setFollow none s).ref.state = .locked := locked
      rw [if_pos off, if_pos locked', laneStateReply_startCalibration, startCalibration_modLane] at answer
      exact request_answers ht answer
  · rintro l rfl
    have answer := reqLaneDisable_val l (setFollow none s)
    rw [show (setFollow none s).lane l = s.lane l from rfl] at answer
    refine ⟨fun off => ?_, fun on => ?_⟩
    · rw [if_pos off, laneStateReply_of (show ((setFollow none s).lane l).state = .disabled from off)] at answer
      exact request_answers ht answer
    · rw [if_neg on, laneStateReply_of (lane_disableLane l _)] at answer
      exact request_answers ht answer

end Sys2Proof.Machine
end

section
/-!
SUPPORT. What a command can do to a lane, as moves of its context; to the reference; and to the paths (R26, R31 to R39, R71,
R83 to R94, R144, R150 to R153, R166). The invariants of chapters 2, 5, 7 and 8 are read off these moves.
-/
namespace Sys2Proof.Machine

/-! ### The moves of a lane -/

/-- What the invariants of a lane speak of. -/
structure LaneView where
  state : LaneState
  owed : Nat
  calFails : Nat
  captured : Nat
  acc : Option Accumulators
  ring : Option RingContent
  hold : Bool
  holdLeft : Countdown

/-- The part of a lane's context that its invariants speak of. -/
def LaneContext.view (c : LaneContext) : LaneView :=
  ⟨c.state, c.owed, c.calFails, c.captured, c.acc, c.ring, c.hold, c.holdLeft⟩

/-- A lane keeps what its invariants speak of: clocks, the latch, the run and the records of calibrations may change. -/
abbrev SameLane (c d : LaneContext) : Prop := d.view = c.view

/-- A lane works: it measures, calibrates or idles (R37). -/
def works (x : LaneState) : Bool := isMeasuring x || x == .idle || x == .calibrating

/-- One move of a lane. A lane leaves a job only from a measuring state, where jobs and lanes are in agreement (`agreed`);
it is paired, and a lane that does not work starts a calibration, only under a LOCKED reference (`locked`). -/
inductive LaneMove (agreed locked : Prop) (c : LaneContext) : LaneContext → Prop
  | aside {d} (same : SameLane c d) : LaneMove agreed locked c d
  | ticks : LaneMove agreed locked c (tickLane c)
  | pairs (j : Job) (budget : Nat) (now : Tick) (free : laneFree c = true) (ready : locked) :
    LaneMove agreed locked c (pairedLane j budget now c)
  | goesOn (x : LaneState) (from_run : isMeasuring c.state = true) (to_run : isMeasuring x = true) :
    LaneMove agreed locked c { c with state := x }
  | samples (p : RunParams) (id : Nat) (x : Sample) : LaneMove agreed locked c (takeSample p id x c)
  | leaves (dest : LaneState) (from_run : agreed → isMeasuring c.state = true) (to_rest : isMeasuring dest = false) :
    LaneMove agreed locked c { c with run := .idle, state := dest }
  | holds (limit : Nat) (ring : c.ring.isSome = true) (rests : isMeasuring c.state = false) (on : c.state ≠ .disabled) :
    LaneMove agreed locked c { c with hold := true, holdLeft := .load limit }
  | unholds : LaneMove agreed locked c (endHold c)
  | owes (n : Nat) (few : n ≤ 2) : LaneMove agreed locked c { c with owed := n }
  | urgent (runs : counterRuns c.state = true) : LaneMove agreed locked c { c with owed := 3, state := .calibrating }
  | starts (rests : isMeasuring c.state = false) (ready : works c.state = true ∨ locked) :
    LaneMove agreed locked c { c with state := .calibrating }
  | fails (n : Nat) (few : n ≤ 2) : LaneMove agreed locked c { c with calFails := n }
  | passes (calibrating : c.state = .calibrating) :
    LaneMove agreed locked c { c with owed := 0, calFails := 0, state := .idle }
  | stops (x : LaneState) (out : x = .uncalibrated ∨ x = .faulted) (rests : isMeasuring c.state = false) :
    LaneMove agreed locked c { c with state := x }
  | disables (rests : isMeasuring c.state = false) (free : c.hold = false) (cleared : c.holdLeft = .idle) :
    LaneMove agreed locked c { c with state := .disabled }

/-- The moves of a lane in one change, one after another. -/
abbrev LaneMoves (agreed locked : Prop) : LaneContext → LaneContext → Prop :=
  Relation.ReflTransGen (LaneMove agreed locked)

section
variable {agreed locked : Prop} {c d e : LaneContext}

theorem LaneMove.mono {weaker : Prop} (h : weaker → agreed) (m : LaneMove agreed locked c d) :
    LaneMove weaker locked c d := by
  cases m with
  | aside same => exact .aside same
  | ticks => exact .ticks
  | pairs j budget now free ready => exact .pairs j budget now free ready
  | goesOn x from_run to_run => exact .goesOn x from_run to_run
  | samples p id x => exact .samples p id x
  | leaves dest from_run to_rest => exact .leaves dest (fun a => from_run (h a)) to_rest
  | holds limit ring rests on => exact .holds limit ring rests on
  | unholds => exact .unholds
  | owes n few => exact .owes n few
  | urgent runs => exact .urgent runs
  | starts rests ready => exact .starts rests ready
  | fails n few => exact .fails n few
  | passes calibrating => exact .passes calibrating
  | stops x out rests => exact .stops x out rests
  | disables rests free cleared => exact .disables rests free cleared

theorem LaneMoves.mono {weaker : Prop} (h : weaker → agreed) (m : LaneMoves agreed locked c d) :
    LaneMoves weaker locked c d := by
  induction m with
  | refl => exact .refl
  | tail _ last ih => exact ih.tail (last.mono h)

/-- A move, and then changes that concern no invariant. -/
theorem LaneMove.then_aside (m : LaneMove agreed locked c d) (same : SameLane d e) : LaneMoves agreed locked c e :=
  .tail (.single m) (.aside same)

theorem laneMoves_aside (same : SameLane c d) : LaneMoves agreed locked c d := .single (.aside same)

/-- A job that leaves a lane, with the hold it may set. -/
theorem LeftFor.moves {dest : LaneState} (left : LeftFor dest c d) (from_run : agreed → isMeasuring c.state = true)
    (to_rest : isMeasuring dest = false) : LaneMoves agreed locked c d := by
  cases left with
  | bare => exact .single (.leaves dest from_run to_rest)
  | held limit ring on => exact .tail (.single (.leaves dest from_run to_rest)) (.holds limit ring to_rest on)

end

/-! ### What the moves keep -/

/-- The due count and the failures of a lane are bounded (R31, R34). -/
def DueFits (v : LaneView) : Prop :=
  v.owed ≤ 3 ∧ v.calFails ≤ 2 ∧ (v.owed = 3 → isMeasuring v.state = false ∧ v.state ≠ .idle)

theorem dueCountBounded_iff {s : State} : DueCountBounded s ↔ ∀ l, DueFits (s.lane l).view := Iff.rfl

/-- The hold of a lane fits it (R150). -/
def HoldFits (v : LaneView) : Prop :=
  (v.hold = false → v.holdLeft = .idle)
    ∧ (v.hold = true → isMeasuring v.state = false ∧ v.state ≠ .disabled ∧ v.ring.isSome = true)

theorem holdFitsLane_iff {s : State} : HoldFitsLane s ↔ ∀ l, HoldFits (s.lane l).view := Iff.rfl

/-- The ring of a lane holds the latest of its samples (R91, R144). -/
def RingFits (v : LaneView) : Prop :=
  match v.ring with
  | none => v.captured = 0 ∧ v.acc = none
  | some r => 1 ≤ v.captured ∧ v.acc.isSome = true
      ∧ r.samples.length = min 4096 v.captured ∧ r.first + r.samples.length = v.captured

theorem ringFitsCount_iff {s : State} : RingFitsCount s ↔ ∀ l, RingFits (s.lane l).view := Iff.rfl

theorem lanesNeedReference_iff {s : State} :
    LanesNeedReference s ↔ ∀ l, works (s.lane l).state = true → s.ref.state = .locked := by
  unfold LanesNeedReference
  refine forall_congr' fun l => ?_
  cases (s.lane l).state <;> simp [works, isMeasuring]

section
variable {agreed locked : Prop} {c d : LaneContext}

theorem DueFits.of_measuring {v : LaneView} (h : DueFits v) (m : isMeasuring v.state = true) : v.owed ≠ 3 := fun e => by
  rw [(h.2.2 e).1] at m
  cases m

theorem HoldFits.of_measuring {v : LaneView} (h : HoldFits v) (m : isMeasuring v.state = true) :
    v.hold = false ∧ v.holdLeft = .idle := by
  have free : v.hold = false := eq_false_of_ne_true fun held => by
    rw [(h.2 held).1] at m
    cases m
  exact ⟨free, h.1 free⟩

/-- A lane without a hold fits. -/
theorem holdFits_of_free {v : LaneView} (free : v.hold = false) (cleared : v.holdLeft = .idle) : HoldFits v :=
  ⟨fun _ => cleared, fun held => by rw [free] at held; cases held⟩

/-- A hold stays in a lane that does not measure and is not DISABLED. -/
theorem HoldFits.moveTo {v : LaneView} (h : HoldFits v) {x : LaneState}
    (fits : isMeasuring x = false ∧ x ≠ .disabled) : HoldFits { v with state := x } :=
  ⟨h.1, fun e => ⟨fits.1, fits.2, (h.2 e).2.2⟩⟩

theorem DueFits.move (h : DueFits c.view) (m : LaneMove agreed locked c d) (a : agreed) : DueFits d.view := by
  have notThree (m : isMeasuring c.state = true) := h.of_measuring m
  obtain ⟨owed, calFails, three⟩ := h
  cases m with
  | aside same =>
    rw [same]
    exact ⟨owed, calFails, three⟩
  | ticks => exact ⟨owed, calFails, three⟩
  | pairs j budget now free ready =>
    simp only [laneFree, Bool.and_eq_true, beq_iff_eq] at free
    exact ⟨owed, calFails, fun e => absurd free.1 (three e).2⟩
  | goesOn x from_run to_run => exact ⟨owed, calFails, fun e => absurd e (notThree from_run)⟩
  | samples p id x => exact ⟨owed, calFails, three⟩
  | leaves dest from_run to_rest => exact ⟨owed, calFails, fun e => absurd e (notThree (from_run a))⟩
  | holds limit ring rests on => exact ⟨owed, calFails, three⟩
  | unholds => exact ⟨owed, calFails, three⟩
  | owes n few => exact ⟨few.trans (by decide), calFails, fun e => absurd e (Nat.ne_of_lt (Nat.lt_succ_of_le few))⟩
  | urgent runs => exact ⟨le_rfl, calFails, fun _ => ⟨rfl, nofun⟩⟩
  | starts rests ready => exact ⟨owed, calFails, fun _ => ⟨rfl, nofun⟩⟩
  | fails n few => exact ⟨owed, few, three⟩
  | passes calibrating => exact ⟨Nat.zero_le 3, Nat.zero_le 2, fun e => by cases e⟩
  | stops x out rests => exact ⟨owed, calFails, fun _ => by rcases out with rfl | rfl <;> exact ⟨rfl, nofun⟩⟩
  | disables rests free cleared => exact ⟨owed, calFails, fun _ => ⟨rfl, nofun⟩⟩

theorem HoldFits.move (h : HoldFits c.view) (m : LaneMove agreed locked c d) (a : agreed) : HoldFits d.view := by
  have idle (m : isMeasuring c.state = true) := h.of_measuring m
  have rest {x : LaneState} (fits : isMeasuring x = false ∧ x ≠ .disabled) : HoldFits { c.view with state := x } :=
    h.moveTo fits
  obtain ⟨free, held⟩ := h
  cases m with
  | aside same =>
    rw [same]
    exact ⟨free, held⟩
  | ticks => exact ⟨fun e => congrArg Countdown.tick (free e), held⟩
  | pairs j budget now laneIsFree ready =>
    simp only [laneFree, Bool.and_eq_true, Bool.not_eq_true'] at laneIsFree
    exact holdFits_of_free laneIsFree.2 (free laneIsFree.2)
  | goesOn x from_run to_run => exact holdFits_of_free (idle from_run).1 (idle from_run).2
  | samples p id x => exact ⟨free, fun e => ⟨(held e).1, (held e).2.1, rfl⟩⟩
  | leaves dest from_run to_rest => exact holdFits_of_free (idle (from_run a)).1 (idle (from_run a)).2
  | holds limit ring rests on => exact ⟨nofun, fun _ => ⟨rests, on, ring⟩⟩
  | unholds => exact holdFits_of_free rfl rfl
  | owes n few => exact ⟨free, held⟩
  | urgent runs => exact rest ⟨rfl, nofun⟩
  | starts rests ready => exact rest ⟨rfl, nofun⟩
  | fails n few => exact ⟨free, held⟩
  | passes calibrating => exact rest ⟨rfl, nofun⟩
  | stops x out rests => exact rest (by rcases out with rfl | rfl <;> exact ⟨rfl, nofun⟩)
  | disables rests noHold cleared => exact holdFits_of_free noHold cleared

/-- A ring that holds the latest samples takes in the next one (R91). -/
theorem ringWrite_fits {v : LaneView} (h : RingFits v) (id : Nat) (r : RawSample) :
    (ringWrite id v.captured r v.ring).samples.length = min 4096 (v.captured + 1)
      ∧ (ringWrite id v.captured r v.ring).first + (ringWrite id v.captured r v.ring).samples.length
        = v.captured + 1 := by
  unfold RingFits at h
  cases ring : v.ring with
  | none =>
    rw [ring] at h
    simp [ringWrite, Config.ringPlaces, h.1]
  | some x =>
    rw [ring] at h
    obtain ⟨-, -, length, first⟩ := h
    simp only [ringWrite, Config.ringPlaces, List.length_drop, List.length_append, List.length_cons, List.length_nil]
    omega

theorem RingFits.move (h : RingFits c.view) (m : LaneMove agreed locked c d) : RingFits d.view := by
  cases m with
  | aside same =>
    rw [same]
    exact h
  | pairs j budget now free ready => exact ⟨rfl, rfl⟩
  | samples p id x =>
    obtain ⟨length, first⟩ := ringWrite_fits h id
      (rawForm p (c.run.coarse.getD 0) (((c.memory.head?).map (·.stamp)).getD x.stamp) c.captured x)
    exact ⟨Nat.le_add_left 1 _, rfl, length, first⟩
  | ticks | goesOn | leaves | holds | unholds | owes | urgent | starts | fails | passes | stops | disables => exact h

theorem works_of_measuring {x : LaneState} (h : isMeasuring x = true) : works x = true := by
  simp [works, h]

theorem works_of_counterRuns {x : LaneState} (h : counterRuns x = true) : works x = true := by
  rcases counterRuns_iff.1 h with rfl | h
  · rfl
  · exact works_of_measuring h

/-- A lane that works after a move worked before it, or the reference is LOCKED (R37). -/
theorem LaneMove.works (m : LaneMove agreed locked c d) (a : agreed) (h : works d.state = true) :
    Machine.works c.state = true ∨ locked := by
  cases m with
  | aside same =>
    have state : d.state = c.state := congrArg LaneView.state same
    exact .inl (state ▸ h)
  | pairs j budget now free ready => exact .inr ready
  | goesOn x from_run to_run => exact .inl (works_of_measuring from_run)
  | leaves dest from_run to_rest => exact .inl (works_of_measuring (from_run a))
  | urgent runs => exact .inl (works_of_counterRuns runs)
  | starts rests ready => exact ready
  | passes calibrating => exact .inl (by rw [calibrating]; rfl)
  | stops x out rests => rcases out with rfl | rfl <;> cases h
  | disables rests free cleared => cases h
  | ticks | samples | holds | unholds | owes | fails => exact .inl h

theorem DueFits.moves (h : DueFits c.view) (m : LaneMoves agreed locked c d) (a : agreed) : DueFits d.view := by
  induction m with
  | refl => exact h
  | tail _ last ih => exact ih.move last a

theorem HoldFits.moves (h : HoldFits c.view) (m : LaneMoves agreed locked c d) (a : agreed) : HoldFits d.view := by
  induction m with
  | refl => exact h
  | tail _ last ih => exact ih.move last a

theorem RingFits.moves (h : RingFits c.view) (m : LaneMoves agreed locked c d) : RingFits d.view := by
  induction m with
  | refl => exact h
  | tail _ last ih => exact ih.move last

theorem LaneMoves.works (m : LaneMoves agreed locked c d) (a : agreed) (h : works d.state = true) :
    Machine.works c.state = true ∨ locked := by
  induction m with
  | refl => exact .inl h
  | tail _ last ih => exact (last.works a h).elim ih .inr

end

end Sys2Proof.Machine
end

section
/-!
SUPPORT. Which moves each operation makes: the ends of jobs, the rows of a run, the rows of a calibration, pairing and the
service tick (R28, R32 to R36, R69 to R73, R85 to R94, R101, R151).
-/
namespace Sys2Proof.Machine

/-! ### Path entries -/

/-- The fields of a path entry agree with its rating (R161, R165, R166). -/
def EntryAgrees (e : PathEntry) : Prop :=
  match e.rating with
  | .unchecked => e.floors = .none ∧ e.lastCheck = none ∧ e.checks = 0
  | .good | .marginal => e.floors.tie.isSome = true ∧ e.lastCheck.isSome = true ∧ 1 ≤ e.checks ∧ e.checks ≤ 255
  | .bad => e.lastCheck.isSome = true ∧ 1 ≤ e.checks ∧ e.checks ≤ 255

theorem pathEntriesAgree_iff {s : State} : PathEntriesAgree s ↔ ∀ i l, EntryAgrees (s.path i l) := Iff.rfl

/-- The rating that a report gives is one of a check, GOOD and MARGINAL with a TIE floor (R106, R165). -/
def ReportFits (e : EndReport) : Prop :=
  e.newRating ≠ some .unchecked
    ∧ (e.newRating = some .good ∨ e.newRating = some .marginal → e.floors.tie.isSome = true)

theorem reportFits_bareEnd (code : TermCode) (freq : Option Int) : ReportFits (bareEnd code freq) :=
  ⟨nofun, by rintro (e | e) <;> cases e⟩

theorem rate_eq_some {x : Settings} {tie : Option Nat} (h : rate x tie = .good ∨ rate x tie = .marginal) :
    tie.isSome = true := by
  cases tie with
  | none => rcases h with e | e <;> cases e
  | some f => rfl

theorem rate_ne_unchecked (x : Settings) (tie : Option Nat) : rate x tie ≠ .unchecked := by
  unfold rate
  repeat' split
  all_goals nofun

/-- The report of a reduction rates a path by its TIE floor (R165). -/
theorem reportFits_reductionReport (s : State) (l : Lane) (j : Job) (p : RunParams) :
    ReportFits (reductionReport s l j p) := by
  unfold reductionReport
  cases j.work with
  | check t =>
    exact ⟨fun e => rate_ne_unchecked _ _ (Option.some.inj e),
      fun e => rate_eq_some (e.imp Option.some.inj Option.some.inj)⟩
  | measure x =>
    dsimp only
    split
    · exact reportFits_bareEnd _ _
    · exact ⟨nofun, by rintro (e | e) <;> cases e⟩

/-- A check writes an entry that agrees with its rating, and no other entry changes. -/
theorem path_writeCheckedPath_fits (j : Job) {e : EndReport} (fits : ReportFits e) (s : State) (i : Site) (m : Lane) :
    (writeCheckedPath j e s).path i m = s.path i m ∨ EntryAgrees ((writeCheckedPath j e s).path i m) := by
  unfold writeCheckedPath
  split
  · rename_i l r _ rated
    by_cases at_path : (i, m) = (j.site, l)
    · cases at_path
      right
      rw [writePath, path_setPath_self]
      obtain ⟨checked, floor⟩ := fits
      have counts : 1 ≤ min 255 ((s.path j.site m).checks + 1) ∧ min 255 ((s.path j.site m).checks + 1) ≤ 255 := by omega
      cases r with
      | unchecked => exact absurd rated checked
      | good => exact ⟨floor (.inl rated), rfl, counts⟩
      | marginal => exact ⟨floor (.inr rated), rfl, counts⟩
      | bad => exact ⟨rfl, counts⟩
    · exact .inl (path_setPath_of_ne s _ at_path)
  · exact .inl rfl

/-! ### Shifts of the lanes, the reference and the paths -/

/-- Each path entry stands or has been written by a check and agrees with its rating. -/
def PathsMove (s t : State) : Prop := ∀ i l, t.path i l = s.path i l ∨ EntryAgrees (t.path i l)

theorem PathsMove.trans {s t u : State} (h : PathsMove s t) (k : PathsMove t u) : PathsMove s u := fun i l => by
  rcases k i l with same | written
  · rw [same]
    exact h i l
  · exact .inr written

/-- Each lane makes moves, the reference stands but for its tick and last count, and each path entry stands or has been
written by a check. -/
structure Shifts (agreed : Prop) (s t : State) : Prop where
  lanes : ∀ l, LaneMoves agreed (s.ref.state = .locked) (s.lane l) (t.lane l)
  paths : PathsMove s t
  refState : t.ref.state = s.ref.state
  progress : t.ref.progress = s.ref.progress
  source : t.ref.source = s.ref.source

/-- Lanes, paths and reference stand. -/
structure Still (s t : State) : Prop where
  lanes : t.lanes = s.lanes
  paths : t.paths = s.paths
  ref : t.ref = s.ref

theorem Still.rfl {s : State} : Still s s := ⟨Eq.refl _, Eq.refl _, Eq.refl _⟩

theorem Still.trans {s t u : State} (h : Still s t) (k : Still t u) : Still s u :=
  ⟨k.lanes.trans h.lanes, k.paths.trans h.paths, k.ref.trans h.ref⟩

theorem still_foldl {α : Type} (f : State → α → State) (hf : ∀ s a, Still s (f s a)) (l : List α) (s : State) :
    Still s (l.foldl f s) :=
  foldl_related Still (fun _ => .rfl) (fun _ _ _ => .trans) f hf l s

theorem still_of_keeps {s t : State} (rest : KeepsRest s t) (work : KeepsWork s t) : Still s t :=
  ⟨work.lanes, work.paths, rest.ref⟩

theorem still_of_endsInList {s t : State} (h : EndsInList s t) : Still s t := ⟨h.lanes, h.paths, h.only.rest.ref⟩

theorem still_onlyLink {s t : State} (h : OnlyLink s t) : Still s t := by
  rw [h]
  exact ⟨rfl, rfl, rfl⟩

theorem still_modSite (s : State) (i : Site) (f : SiteRecord → SiteRecord) : Still s (s.modSite i f) := ⟨rfl, rfl, rfl⟩

theorem still_announce (i : Site) (s : State) : Still s (announce i s) :=
  still_of_endsInList (endsInList_foldl .siteGone _ s)

theorem still_endChecksOn (l : Lane) (s : State) : Still s (endChecksOn l s) :=
  still_of_endsInList (endsInList_foldl .noPath _ s)

section
variable {agreed : Prop} {s t u : State} {l : Lane}

theorem Still.shifts (h : Still s t) : Shifts agreed s t :=
  ⟨fun l => by rw [lane_of_lanes h.lanes], fun i l => .inl (path_of_paths h.paths i l), by rw [h.ref], by rw [h.ref],
    by rw [h.ref]⟩

theorem Shifts.refl (s : State) : Shifts agreed s s := Still.rfl.shifts

theorem Shifts.trans (h : Shifts agreed s t) (k : Shifts agreed t u) : Shifts agreed s u := by
  refine ⟨fun l => (h.lanes l).trans ?_, h.paths.trans k.paths, k.refState.trans h.refState,
    k.progress.trans h.progress, k.source.trans h.source⟩
  rw [← h.refState]
  exact k.lanes l

theorem shifts_foldl {α : Type} (f : State → α → State) (hf : ∀ s a, Shifts agreed s (f s a)) (as : List α)
    (s : State) : Shifts agreed s (as.foldl f s) :=
  foldl_related (Shifts agreed) .refl (fun _ _ _ => .trans) f hf as s

/-- A change of one lane by its moves. -/
theorem shifts_modLane {f : LaneContext → LaneContext}
    (h : LaneMoves agreed (s.ref.state = .locked) (s.lane l) (f (s.lane l))) : Shifts agreed s (s.modLane l f) := by
  refine ⟨fun m => ?_, fun _ _ => .inl rfl, rfl, rfl, rfl⟩
  by_cases e : m = l
  · rw [e, lane_modLane_self]
    exact h
  · rw [lane_modLane_of_ne s f e]

theorem shifts_aside {f : LaneContext → LaneContext} (h : SameLane (s.lane l) (f (s.lane l))) :
    Shifts agreed s (s.modLane l f) := shifts_modLane (laneMoves_aside h)

/-! ### Ends and givings back (R73, R94) -/

theorem path_endJob_fits (l : Lane) (j : Job) {e : EndReport} (fits : ReportFits e) (dest : LaneState) (s : State)
    (i : Site) (m : Lane) :
    (endJob l j e dest s).path i m = s.path i m ∨ EntryAgrees ((endJob l j e dest s).path i m) := by
  rw [path_of_paths (paths_endJob l j e dest s)]
  exact path_writeCheckedPath_fits j fits (removeJob j.id s) i m

theorem path_leave_detach (l : Lane) (dest : LaneState) (u : State) (i : Site) (m : Lane) :
    (leave l dest (detach l u)).path i m = u.path i m := path_of_paths (paths_leave_detach l dest u) i m

/-- A state in which a job has left one lane, and no other lane has changed. -/
theorem shifts_of_left {dest : LaneState} (left : LeftFor dest (s.lane l) (t.lane l))
    (others : ∀ m, m ≠ l → t.lane m = s.lane m) (paths : ∀ i m, t.path i m = s.path i m ∨ EntryAgrees (t.path i m))
    (rest : KeepsRest s t) (from_run : agreed → isMeasuring (s.lane l).state = true)
    (to_rest : isMeasuring dest = false) : Shifts agreed s t := by
  refine ⟨fun m => ?_, paths, by rw [rest.ref], by rw [rest.ref], by rw [rest.ref]⟩
  by_cases e : m = l
  · rw [e]
    exact left.moves from_run to_rest
  · rw [others m e]

theorem shifts_endJob (j : Job) {e : EndReport} (fits : ReportFits e)
    (from_run : agreed → isMeasuring (s.lane l).state = true) : Shifts agreed s (endJob l j e .idle s) :=
  shifts_of_left (leftFor_endJob l j e .idle s) (fun _ ne => lane_endJob_of_ne j e .idle s ne)
    (path_endJob_fits l j fits .idle s) (keepsRest_endJob l j e .idle s) from_run rfl

theorem shifts_laneEnd {e : EndReport} (fits : ReportFits e) (from_run : isMeasuring (s.lane l).state = true) :
    Shifts agreed s (laneEnd l e .idle s) := by
  refine shifts_of_left (leftFor_laneEnd l e .idle s) (fun _ ne => lane_laneEnd_of_ne e .idle s ne) (fun i m => ?_)
    (keepsRest_laneEnd l e .idle s) (fun _ => from_run) rfl
  unfold laneEnd
  split
  · exact .inl (path_leave_detach l .idle s i m)
  · exact path_endJob_fits l _ fits .idle s i m

theorem path_giveBack_fits (l : Lane) (cause : RequeueCause) (dest : LaneState) (s : State) (i : Site) (m : Lane) :
    (giveBack l cause dest s).path i m = s.path i m ∨ EntryAgrees ((giveBack l cause dest s).path i m) := by
  unfold giveBack
  split
  · exact .inl (path_leave_detach l dest s i m)
  · split
    · exact path_endJob_fits l _ (reportFits_bareEnd _ _) dest s i m
    · exact .inl (path_leave_detach l dest _ i m)

theorem shifts_giveBack (cause : RequeueCause) {dest : LaneState} (from_run : isMeasuring (s.lane l).state = true)
    (to_rest : isMeasuring dest = false) : Shifts agreed s (giveBack l cause dest s) :=
  shifts_of_left (leftFor_giveBack l cause dest s) (fun _ ne => lane_giveBack_of_ne cause dest s ne)
    (path_giveBack_fits l cause dest s) (keepsRest_giveBack l cause dest s) (fun _ => from_run) to_rest

theorem shifts_acquisitionEnd (code : TermCode) (from_run : isMeasuring (s.lane l).state = true) :
    Shifts agreed s (acquisitionEnd l code s) := by
  simp only [acquisitionEnd]
  split
  · exact shifts_laneEnd ⟨nofun, by rintro (e | e) <;> cases e⟩ from_run
  · exact shifts_laneEnd (reportFits_bareEnd _ _) from_run

/-! ### Switch events (R12, R99) -/

theorem shifts_announceSwitch (q : Quad) (named : List Site) (cause : SwitchCause) (s : State) (l : Lane) :
    Shifts agreed s (announceSwitch q named cause s l) := by
  by_cases h : SwitchReaches q named cause (s.lane l)
  · obtain ⟨-, ⟨code, e⟩ | e⟩ := announceSwitch_of_reaches h
    · rw [e]
      exact shifts_laneEnd (reportFits_bareEnd _ _) h.1
    · rw [e]
      exact shifts_giveBack .disturbed h.1 rfl
  · rw [announceSwitch_of_not h]
    exact .refl s

theorem shifts_switchOff (i : Site) (dest : SiteState) (cause : SwitchCause) (s : State) :
    Shifts agreed s (switchOff i dest cause s) := by
  have off : Still s (s.modSite i (switchedOff dest)) := still_modSite s i _
  have disturbed := off.trans (still_of_keeps (keepsRest_disturbQuad (quadOf i) _) (keepsWork_disturbQuad (quadOf i) _))
  exact disturbed.shifts.trans (shifts_foldl _ (shifts_announceSwitch _ _ cause) _ _)

/-! ### Events of the sites (R4, R5, R10, R13) -/

theorem still_contactRise (i : Site) (s : State) : Still s (contactRise i s) := by
  simp only [contactRise]
  split
  · split
    · split
      · exact (still_foldl seat (fun s i => still_modSite s i _) _ s).trans
          (still_of_keeps (keepsRest_claimTogether _ _ _) (keepsWork_claimTogether _ _ _))
      · exact still_modSite s i _
    · exact still_modSite s i _
  · exact .rfl

theorem shifts_contactFall (i : Site) (s : State) : Shifts agreed s (contactFall i s) := by
  have fallen : Still s (s.modSite i (takeContact false)) := still_modSite s i _
  simp only [contactFall]
  split
  · split
    case h_1 | h_2 => exact fallen.shifts
    case h_3 | h_4 | h_5 => exact ((fallen.trans (still_modSite _ i _)).trans (still_announce i _)).shifts
    case h_6 | h_7 =>
      exact (fallen.shifts.trans (shifts_switchOff i .vacant .contactFall _)).trans (still_announce i _).shifts
  · exact .refl s

theorem shifts_supplyFaultTrip (i : Site) (s : State) : Shifts agreed s (supplyFaultTrip i s) := by
  have counted : Still s (s.modSite i fun r => { r with faults := min 255 (r.faults + 1) }) := still_modSite s i _
  simp only [supplyFaultTrip]
  split
  · exact (counted.shifts.trans (shifts_switchOff i .fault .faultTrip _)).trans
      ((still_onlyLink (onlyLink_raiseSupplyFault i _)).trans (still_announce i _)).shifts
  · exact .refl s

theorem still_settleExpiry (i : Site) (s : State) : Still s (settleExpiry i s) := by
  simp only [settleExpiry]
  split
  · exact still_modSite s i _
  · exact .rfl

/-! ### The rows of a run (R85 to R93) -/

/-- A step that stays in the measuring states changes the lane's state and what concerns no invariant. -/
theorem shifts_goesOn {f : LaneContext → LaneContext} (from_run : isMeasuring (s.lane l).state = true)
    (to_run : isMeasuring (f (s.lane l)).state = true)
    (same : SameLane { s.lane l with state := (f (s.lane l)).state } (f (s.lane l))) :
    Shifts agreed s (s.modLane l f) :=
  shifts_modLane (LaneMove.then_aside (.goesOn _ from_run to_run) same)

theorem shifts_takeEdges (l : Lane) (p : RunParams) (edges : List EdgeRun) (s : State) :
    Shifts agreed s (takeEdges l p edges s) := shifts_aside rfl

theorem state_takeEdges (l : Lane) (p : RunParams) (edges : List EdgeRun) (s : State) :
    ((takeEdges l p edges s).lane l).state = (s.lane l).state := by
  rw [takeEdges, lane_modLane_self]

theorem shifts_attachEnd (l : Lane) (s : State) : Shifts agreed s (attachEnd l s) := by
  simp only [attachEnd]
  split
  · rename_i h
    exact shifts_goesOn (by rw [h.1]; rfl) rfl rfl
  · exact .refl s

theorem shifts_noSignalWindowEnd (l : Lane) (edges : List EdgeRun) (s : State) :
    Shifts agreed s (noSignalWindowEnd l edges s) := by
  simp only [noSignalWindowEnd]
  split
  · rename_i h
    split
    · exact .refl s
    · split
      · exact shifts_acquisitionEnd _ (by rw [h.1]; rfl)
      · exact (shifts_takeEdges l _ edges s).trans (shifts_aside rfl)
  · exact .refl s

theorem shifts_enterDiscarding (p : RunParams) (from_run : isMeasuring (s.lane l).state = true) :
    Shifts agreed s (enterDiscarding l p s) := shifts_goesOn from_run rfl rfl

theorem shifts_lockTest {p : RunParams} {time : Rat} {without : State → State} (h : Shifts agreed s u)
    (from_run : isMeasuring (u.lane l).state = true) (unlocked : Shifts agreed u (without u)) :
    Shifts agreed s (lockTest l p time without u) := by
  unfold lockTest
  split
  · exact h.trans (shifts_enterDiscarding p from_run)
  · exact h.trans unlocked

theorem shifts_coarseFrequencyCheck (l : Lane) (edges : List EdgeRun) (time : Rat) (s : State) :
    Shifts agreed s (coarseFrequencyCheck l edges time s) := by
  simp only [coarseFrequencyCheck]
  split
  · rename_i h
    have m : isMeasuring (s.lane l).state = true := by rw [h.1]; rfl
    split
    · exact .refl s
    · have drawn : Still s s.draw := ⟨rfl, rfl, rfl⟩
      have checked (p : RunParams) (error : Int) : Shifts agreed s ((takeEdges l p edges s.draw).modLane l fun c =>
          { c with run := { c.run with coarse := some error } }) :=
        (drawn.shifts.trans (shifts_takeEdges l p edges _)).trans
          (shifts_aside rfl)
      have m' (p : RunParams) (error : Int) : isMeasuring (((takeEdges l p edges s.draw).modLane l fun c =>
          { c with run := { c.run with coarse := some error } }).lane l).state = true := by
        rw [lane_modLane_self]
        exact (congrArg isMeasuring (state_takeEdges l p edges s.draw)).trans m
      split
      · exact shifts_acquisitionEnd _ m
      · split
        · exact (checked _ _).trans (shifts_acquisitionEnd _ (m' _ _))
        · exact shifts_lockTest (checked _ _) (m' _ _) (.refl _)
  · exact .refl s

theorem shifts_lockAcquired (l : Lane) (edges : List EdgeRun) (time : Rat) (s : State) :
    Shifts agreed s (lockAcquired l edges time s) := by
  simp only [lockAcquired]
  split
  · rename_i h
    split
    · exact .refl s
    · exact shifts_lockTest (shifts_takeEdges l _ edges s) (by rw [state_takeEdges, h.1]; rfl) (.refl _)
  · exact .refl s

theorem shifts_lockWindowEnd (l : Lane) (edges : List EdgeRun) (time : Rat) (s : State) :
    Shifts agreed s (lockWindowEnd l edges time s) := by
  simp only [lockWindowEnd]
  split
  · rename_i h
    split
    · exact .refl s
    · rename_i p _
      have m : isMeasuring ((takeEdges l p edges s).lane l).state = true := by
        rw [state_takeEdges]
        exact measuring_of_lockWindowOver h
      exact shifts_lockTest (shifts_takeEdges l p edges s) m (shifts_acquisitionEnd _ m)
  · exact .refl s

theorem shifts_lockWindowLapse (l : Lane) (s : State) : Shifts agreed s (lockWindowLapse l s) := by
  unfold lockWindowLapse
  split
  · rename_i h
    exact shifts_acquisitionEnd _ (measuring_of_lockWindowOver h)
  · exact .refl s

theorem shifts_lossOfLock (l : Lane) (edges : List EdgeRun) (time : Rat) (s : State) :
    Shifts agreed s (lossOfLock l edges time s) := by
  simp only [lossOfLock]
  split
  · rename_i h
    have m : isMeasuring (s.lane l).state = true := by rcases h with e | e <;> rw [e] <;> rfl
    split
    · exact .refl s
    · split
      · exact shifts_acquisitionEnd _ m
      · exact .refl s
  · exact .refl s

theorem shifts_discardComplete (l : Lane) (edges : List EdgeRun) (s : State) :
    Shifts agreed s (discardComplete l edges s) := by
  simp only [discardComplete]
  split
  · rename_i h
    have m : isMeasuring (s.lane l).state = true := by rw [h]; rfl
    split
    · exact .refl s
    · rename_i p _
      split
      · exact shifts_acquisitionEnd _ m
      · have passed (passing : List EdgeRun) (left : Nat) : Shifts agreed s ((takeEdges l p passing s).modLane l
            fun c => { c with run := { c.run with discard := left } }) :=
          (shifts_takeEdges l p passing s).trans (shifts_aside rfl)
        split
        · refine (passed _ _).trans (shifts_goesOn ?_ rfl rfl)
          rw [lane_modLane_self]
          exact (congrArg isMeasuring (state_takeEdges l p _ s)).trans m
        · exact passed _ _
  · exact .refl s

theorem shifts_enterReducing (ticks : Nat) (from_run : isMeasuring (s.lane l).state = true) :
    Shifts agreed s (enterReducing l ticks s) := shifts_goesOn from_run rfl rfl

theorem shifts_sampleComplete (l : Lane) (edges : List EdgeRun) (s : State) :
    Shifts agreed s (sampleComplete l edges s) := by
  simp only [sampleComplete]
  split
  · rename_i h
    have m : isMeasuring (s.lane l).state = true := by rw [h]; rfl
    split
    · exact .refl s
    · rename_i j p _
      split
      · exact shifts_acquisitionEnd _ m
      · split
        · have sampled (x : Sample) : Shifts agreed s (s.modLane l (takeSample p j.id x)) :=
            shifts_modLane (.single (.samples p j.id x))
          split
          · refine (sampled _).trans (shifts_enterReducing _ ?_)
            rw [lane_modLane_self]
            exact m
          · exact sampled _
        · exact .refl s
  · exact .refl s

theorem shifts_checkCaptureEnd (l : Lane) (s : State) : Shifts agreed s (checkCaptureEnd l s) := by
  simp only [checkCaptureEnd]
  split
  · rename_i h
    split
    · exact .refl s
    · exact shifts_enterReducing _ (by rw [h.1]; rfl)
  · exact .refl s

theorem shifts_reductionEnd (l : Lane) (s : State) : Shifts agreed s (reductionEnd l s) := by
  simp only [reductionEnd]
  split
  · rename_i h
    split
    · exact .refl s
    · have drawn (t : State) : Still t (drawReduction t) := ⟨rfl, rfl, rfl⟩
      exact (shifts_laneEnd (reportFits_reductionReport s l _ _) (by rw [h.1]; rfl)).trans (drawn _).shifts
  · exact .refl s

theorem shifts_budgetExpiry (l : Lane) (s : State) : Shifts agreed s (budgetExpiry l s) := by
  simp only [budgetExpiry]
  split
  · rename_i h
    rw [Bool.and_eq_true] at h
    split
    · exact shifts_aside rfl
    · exact shifts_laneEnd (reportFits_bareEnd _ _) h.1
  · exact .refl s

theorem shifts_endHold (l : Lane) (s : State) : Shifts agreed s (s.modLane l endHold) :=
  shifts_modLane (.single .unholds)

theorem shifts_holdExpiry (l : Lane) (s : State) : Shifts agreed s (holdExpiry l s) := by
  simp only [holdExpiry]
  split
  · exact (shifts_endHold l s).trans (still_onlyLink (onlyLink_raiseHoldExpired l _)).shifts
  · exact .refl s

/-! ### Calibration and pairing (R32 to R36, R71) -/

theorem shifts_startCalibration (rests : isMeasuring (s.lane l).state = false)
    (ready : works (s.lane l).state = true ∨ s.ref.state = .locked) : Shifts agreed s (startCalibration l s) :=
  shifts_modLane (LaneMove.then_aside (.starts rests ready) rfl)

/-- The lane of an urgent calibration, after the job that it has given back (R34). -/
theorem LeftFor.urgent {c d : LaneContext} {locked : Prop} (runs : isMeasuring c.state = true) (counter left : Countdown)
    (h : LeftFor .calibrating { c with owed := 3, calCounter := counter } d) :
    LaneMoves agreed locked c { d with state := .calibrating, calLeft := left } := by
  have urgent : LaneMoves agreed locked c { c with owed := 3, state := .calibrating } :=
    .single (.urgent (counterRuns_iff.2 (.inr runs)))
  cases h with
  | bare => exact urgent.tail (.aside rfl)
  | held limit ring on =>
    exact (urgent.tail (.holds limit ring rfl nofun)).tail (.aside rfl)

theorem shifts_urgent_measuring (cause : RequeueCause) (counter : Countdown)
    (runs : isMeasuring (s.lane l).state = true) : Shifts agreed s (startCalibration l
      (giveBack l cause .calibrating (s.modLane l fun c => { c with owed := 3, calCounter := counter }))) := by
  have left := leftFor_giveBack l cause .calibrating (s.modLane l fun c => { c with owed := 3, calCounter := counter })
  rw [lane_modLane_self] at left
  have rest := keepsRest_giveBack l cause .calibrating (s.modLane l fun c => { c with owed := 3, calCounter := counter })
  refine ⟨fun m => ?_, path_giveBack_fits l cause .calibrating _, congrArg Reference.state rest.ref,
    congrArg Reference.progress rest.ref, congrArg Reference.source rest.ref⟩
  by_cases e : m = l
  · rw [e, startCalibration, lane_modLane_self]
    exact left.urgent runs counter _
  · rw [startCalibration, lane_modLane_of_ne _ _ e, lane_giveBack_of_ne _ _ _ e, lane_modLane_of_ne s _ e]

theorem shifts_calCounterExpiry (l : Lane) (s : State) : Shifts agreed s (calCounterExpiry l s) := by
  by_cases row : counterRuns (s.lane l).state = true ∧ (s.lane l).calCounter.due = true
  · obtain ⟨runs, due⟩ := row
    by_cases few : (s.lane l).owed < 2
    · rw [calCounterExpiry_owes runs due few]
      have counted : min 3 ((s.lane l).owed + 1) ≤ 2 := by omega
      exact shifts_modLane (LaneMove.then_aside (.owes _ counted) rfl)
    · have third : owesMore s (s.lane l) =
          { s.lane l with owed := 3, calCounter := .load s.settings.calPeriod } := by
        rw [owesMore, show min 3 ((s.lane l).owed + 1) = 3 by omega]
      rw [calCounterExpiry_urgent runs due (Nat.not_lt.1 few),
        modLane_congr (g := fun c => { c with owed := 3, calCounter := .load s.settings.calPeriod }) third]
      split
      · rename_i measuring
        exact shifts_urgent_measuring .preempted _ measuring
      · rw [startCalibration_modLane]
        exact shifts_modLane (LaneMove.then_aside (.urgent runs) rfl)
  · have idle : calCounterExpiry l s = s := if_neg (by rwa [Bool.and_eq_true])
    rw [idle]
    exact .refl s

theorem shifts_calibrationComplete (l : Lane) (gain : Nat) (spread : Rat) (s : State) :
    Shifts agreed s (calibrationComplete l gain spread s) := by
  by_cases row : (s.lane l).state = .calibrating ∧ (s.lane l).calLeft.due = true
  · obtain ⟨calibrating, due⟩ := row
    have rests : isMeasuring (s.lane l).state = false := by rw [calibrating]; rfl
    cases result : calibrationPasses gain spread with
    | true =>
      rw [calibrationComplete_pass calibrating due result]
      exact shifts_modLane (LaneMove.then_aside (.passes calibrating) rfl)
    | false =>
      by_cases first : (s.lane l).calFails = 0
      · rw [calibrationComplete_again calibrating due result first]
        exact shifts_modLane (LaneMove.then_aside (.fails 1 (by decide))
          (by simp only [calibrating]; rfl))
      · rw [calibrationComplete_faults calibrating due result first]
        refine .trans (shifts_modLane ?_) (still_onlyLink (onlyLink_raiseLaneFaulted l _)).shifts
        exact .head (.fails 2 le_rfl) (LaneMove.then_aside (.stops .faulted (.inr rfl) rests)
          rfl)
  · have idle : calibrationComplete l gain spread s = s := if_neg row
    rw [idle]
    exact .refl s

end

end Sys2Proof.Machine
end

section
/-!
SUPPORT. Which moves each command makes, beside the agreement of jobs and lanes: pairing, the service tick, RESTART and the
requests (R28, R42, R68, R108, R179).
-/
namespace Sys2Proof.Machine

section
variable {agreed : Prop} {s t u : State} {l : Lane}

/-! ### Pairing, quiet-time calibration and the tick -/

/-- What a job that may start finds: a free lane under a LOCKED reference (R68). -/
theorem ready_of_mayStart {j : Job} (h : mayStart s j l = true) :
    laneFree (s.lane l) = true ∧ s.ref.state = .locked := by
  simp only [mayStart, laneEligible, Bool.and_eq_true, beq_iff_eq] at h
  exact ⟨h.2.1.1.1.1, h.2.1.1.2⟩

theorem shifts_lanePairing (s : State) : Shifts agreed s (lanePairing s) := by
  unfold lanePairing
  split
  · exact .refl s
  · rename_i j l e
    obtain ⟨free, ready⟩ := ready_of_mayStart (nextPair_mayStart e).2
    refine ⟨fun m => ?_, fun _ _ => .inl rfl, rfl, rfl, rfl⟩
    rw [lane_pair]
    split
    · rename_i at_l
      rw [at_l]
      exact .single (.pairs j _ _ free ready)
    · exact .refl

theorem shifts_tickAll (contact flt : BitVec 16) (s : State) : Shifts agreed s (tickAll contact flt s) :=
  ⟨fun l => by rw [lane_tickAll]; exact .single .ticks, fun _ _ => .inl rfl, rfl, rfl, rfl⟩

/-- A quiet-time calibration starts on an IDLE lane (R33). -/
theorem shifts_quietTimeCalibration (l : Lane) (s : State) : Shifts agreed s (quietTimeCalibration l s) := by
  simp only [quietTimeCalibration]
  split
  · rename_i h
    exact shifts_startCalibration (by rw [h.1]; rfl) (.inl (by rw [h.1]; rfl))
  · exact .refl s

theorem shifts_issueRestart (s : State) : Shifts agreed s (issueRestart s) := by
  refine ⟨fun l => ?_, fun _ _ => .inl rfl, rfl, rfl, rfl⟩
  rw [lane_issueRestart, restartLane]
  split
  · rename_i measuring
    exact .head .unholds (LaneMove.then_aside (.leaves .idle (fun _ => measuring) rfl) rfl)
  · exact LaneMove.then_aside .unholds rfl

theorem still_quietExpiry (q : Quad) (s : State) : Still s (quietExpiry q s) := by
  unfold quietExpiry
  split <;> exact ⟨rfl, rfl, rfl⟩

theorem still_gapExpiry (s : State) : Still s (gapExpiry s) := by
  unfold gapExpiry
  repeat' split
  all_goals exact ⟨rfl, rfl, rfl⟩

theorem still_restartBusyWindowEnd (s : State) : Still s (restartBusyWindowEnd s) := by
  unfold restartBusyWindowEnd
  split <;> exact ⟨rfl, rfl, rfl⟩

theorem shifts_drainSite (s : State) (i : Site) : Shifts agreed s (drainSite s i) :=
  (((shifts_contactFall i s).trans (still_contactRise i _).shifts).trans (shifts_supplyFaultTrip i _)).trans
    (still_settleExpiry i _).shifts

theorem shifts_drainLane (s : State) (l : Lane) : Shifts agreed s (drainLane s l) := by
  have acquired := ((shifts_calCounterExpiry (agreed := agreed) l s).trans (shifts_attachEnd l _)).trans
    (shifts_lockWindowLapse l _)
  have reduced := (acquired.trans (shifts_checkCaptureEnd l _)).trans (shifts_reductionEnd l _)
  exact (reduced.trans (shifts_budgetExpiry l _)).trans (shifts_holdExpiry l _)

theorem shifts_drain (s : State) : Shifts agreed s (drain s) := by
  have sites := shifts_foldl (agreed := agreed) drainSite shifts_drainSite allSites s
  have quads := sites.trans (still_foldl drainQuad (fun s q => still_quietExpiry q s) allQuads _).shifts
  have lanes := quads.trans (shifts_foldl drainLane shifts_drainLane allLanes _)
  have link := lanes.trans ((still_gapExpiry _).trans (still_restartBusyWindowEnd _)).shifts
  have pairs := link.trans (shifts_foldl drainPairing (fun s _ => shifts_lanePairing s) allLanes _)
  exact pairs.trans (shifts_foldl drainQuiet (fun s l => shifts_quietTimeCalibration l s) allLanes _)

theorem shifts_serviceTick (contact flt : BitVec 16) (order : Fin 24) (s : State) :
    Shifts agreed s (serviceTick contact flt order s) := by
  have sampled (u : State) : Still u (sampleLines contact flt order u) := ⟨rfl, rfl, rfl⟩
  exact ((shifts_drain s).trans (sampled _).shifts).trans (shifts_tickAll contact flt _)

/-! ### Requests that leave lanes, paths and reference alone -/

theorem still_enterSite (i : Site) (x : SiteState) (s : State) : Still s (enterSite i x s) := by
  have moved : Still s (s.modSite i fun r => { r with state := x }) := still_modSite s i _
  simp only [enterSite]
  split
  · exact moved.trans (still_announce i _)
  · exact moved

theorem still_setEnable (i : Site) (enable : Option Bool) (s : State) : Still s (setEnable i enable s) := by
  simp only [setEnable]
  repeat' split
  all_goals first
    | exact .rfl
    | exact still_enterSite i _ s

theorem still_reqSiteMode (site : Nat) (enable autopower settle : Option Nat) (s : State) :
    Still s (reqSiteMode site enable autopower settle s).2 := by
  unfold reqSiteMode applySiteMode
  repeat' split
  all_goals first
    | exact .rfl
    | exact (still_setEnable _ _ s).trans (still_modSite _ _ _)

theorem still_reqPowerOn (site : Nat) (s : State) : Still s (reqPowerOn site s).2 := by
  unfold reqPowerOn
  repeat' split
  all_goals first
    | exact .rfl
    | exact still_of_keeps (keepsRest_claimPower _ s) (keepsWork_claimPower _ s)

theorem still_reqClearSite (site : Nat) (s : State) : Still s (reqClearSite site s).2 := by
  unfold reqClearSite
  split
  · exact .rfl
  · simp only
    split
    · exact still_enterSite _ _ s
    · exact .rfl

theorem still_appendJobs (batch : Option Nat) (news : List NewJob) (s : State) : Still s (appendJobs batch news s) := by
  refine still_foldl _ (fun s n => ?_) news s
  unfold appendJob
  split <;> exact ⟨rfl, rfl, rfl⟩

theorem still_enqueueBatch (item : Job → List Byte) (news : List NewJob) (s : State) :
    Still s (enqueueBatch item news s).2 := by
  have numbered (b : Nat) : Still s (setBatch b s) := ⟨rfl, rfl, rfl⟩
  unfold enqueueBatch
  split
  · exact .rfl
  · exact (numbered _).trans (still_appendJobs _ news _)

theorem still_reqMeasure (site plan : Nat) (s : State) : Still s (reqMeasure site plan s).2 := by
  unfold reqMeasure
  split
  · simp only
    split
    · exact .rfl
    · exact still_appendJobs _ _ s
  · exact .rfl

theorem still_reqScreen (sites : BitVec 16) (plan : Nat) (s : State) : Still s (reqScreen sites plan s).2 := by
  unfold reqScreen
  repeat' split
  all_goals first
    | exact .rfl
    | exact still_enqueueBatch _ _ s

theorem still_reqCheckPaths (sites : BitVec 16) (lanes : BitVec 8) (s : State) :
    Still s (reqCheckPaths sites lanes s).2 := by
  unfold reqCheckPaths
  repeat' split
  all_goals first
    | exact .rfl
    | exact still_enqueueBatch _ _ s

/-- The writes of the stores, the settings, the results and the follow context are none of lanes, paths and reference. -/
theorem writes_still (s : State) :
    (∀ n p, Still s (reqWritePlan n p s).2) ∧ (∀ n, Still s (reqErasePlan n s).2)
      ∧ (∀ n x, Still s (reqWriteLimits n x s).2) ∧ (∀ n, Still s (reqEraseLimits n s).2)
      ∧ (∀ b, Still s (reqProtect b s).2) ∧ (∀ x v, Still s (reqSetConfig x v s).2)
      ∧ Still s (reqTakeCompletion s).2 ∧ (∀ n, Still s (reqFreeResult n s).2)
      ∧ (∀ l n w f, Still s (reqReadSamples l n w f s).2) ∧ Still s (reqNext s).2 := by
  refine ⟨fun _ _ => ?_, fun _ => ?_, fun _ _ => ?_, fun _ => ?_, fun _ => ?_, fun _ _ => ?_, ?_, fun _ => ?_,
    fun _ _ _ _ => ?_, ?_⟩
  · unfold reqWritePlan; repeat' split
    all_goals exact ⟨rfl, rfl, rfl⟩
  · unfold reqErasePlan; repeat' split
    all_goals exact ⟨rfl, rfl, rfl⟩
  · unfold reqWriteLimits; repeat' split
    all_goals exact ⟨rfl, rfl, rfl⟩
  · unfold reqEraseLimits; repeat' split
    all_goals exact ⟨rfl, rfl, rfl⟩
  · unfold reqProtect; repeat' split
    all_goals exact ⟨rfl, rfl, rfl⟩
  · unfold reqSetConfig; repeat' split
    all_goals exact ⟨rfl, rfl, rfl⟩
  · unfold reqTakeCompletion; repeat' split
    all_goals exact ⟨rfl, rfl, rfl⟩
  · unfold reqFreeResult; repeat' split
    all_goals exact ⟨rfl, rfl, rfl⟩
  · unfold reqReadSamples readRing; repeat' split
    all_goals exact ⟨rfl, rfl, rfl⟩
  · unfold reqNext; repeat' split
    all_goals exact ⟨rfl, rfl, rfl⟩

/-! ### Requests that reach lanes -/

theorem shifts_reqPowerOff (site : Nat) (s : State) : Shifts agreed s (reqPowerOff site s).2 := by
  unfold reqPowerOff
  split
  · exact .refl s
  · rename_i i _
    have withdrawn : Still s (s.modSite i fun r => { r with state := .seated }) := still_modSite s i _
    split
    case h_1 | h_2 =>
      show Shifts agreed s (switchOff i .seated .powerOff s)
      exact shifts_switchOff i .seated .powerOff s
    case h_3 => exact withdrawn.shifts
    all_goals exact .refl s

theorem shifts_reqRecalibrate (lane : Nat) (s : State) : Shifts agreed s (reqRecalibrate lane s).2 := by
  unfold reqRecalibrate
  split
  · exact .refl s
  · rename_i l _
    split
    case h_1 e | h_2 e =>
      split
      · rename_i locked
        exact shifts_startCalibration (by rw [e]; rfl) (.inr locked)
      · exact .refl s
    case h_3 e =>
      split
      · rename_i locked
        have cleared : Shifts agreed s (s.modLane l fun c => { c with calFails := 0 }) :=
          shifts_modLane (.single (.fails 0 (by decide)))
        exact cleared.trans (shifts_startCalibration (by rw [lane_modLane_self, e]; rfl) (.inr locked))
      · exact .refl s
    all_goals exact .refl s

theorem shifts_reqLaneEnable (lane : Nat) (s : State) : Shifts agreed s (reqLaneEnable lane s).2 := by
  unfold reqLaneEnable
  split
  · exact .refl s
  · rename_i l _
    split
    · rename_i e
      have enabled : Shifts agreed s (s.modLane l fun c => { c with calFails := 0, state := .uncalibrated }) :=
        shifts_modLane (.tail (.single (.fails 0 (by decide)))
          (.stops .uncalibrated (.inl rfl) (by show isMeasuring (s.lane l).state = false; rw [e]; rfl)))
      simp only [laneStateReply]
      split
      · rename_i locked
        exact enabled.trans (shifts_startCalibration (by rw [lane_modLane_self]; rfl) (.inr locked))
      · exact enabled
    · exact .refl s

/-- A lane that does not measure enters DISABLED, its calibration and its hold ended (R39). -/
theorem shifts_disables (rests : isMeasuring (s.lane l).state = false) : Shifts agreed s
    (s.modLane l fun c => { endHold c with state := .disabled, calLeft := .idle }) :=
  shifts_modLane (.head .unholds (LaneMove.then_aside (.disables rests rfl rfl) rfl))

theorem shifts_disableLane (l : Lane) (s : State) : Shifts agreed s (disableLane l s) := by
  simp only [disableLane]
  refine .trans ?_ (still_endChecksOn l _).shifts
  split
  · rename_i measuring
    exact (shifts_giveBack .preempted measuring rfl).trans (shifts_disables (by rw [state_giveBack]; rfl))
  · rename_i rests
    exact shifts_disables (eq_false_of_ne_true rests)

theorem shifts_reqLaneDisable (lane : Nat) (s : State) : Shifts agreed s (reqLaneDisable lane s).2 := by
  unfold reqLaneDisable
  split
  · exact .refl s
  · simp only [laneStateReply]
    split
    · exact .refl s
    · exact shifts_disableLane _ s

theorem shifts_reqSnapshot (lanes : BitVec 8) (s : State) : Shifts agreed s (reqSnapshot lanes s).2 := by
  unfold reqSnapshot
  split
  · exact .refl s
  · split
    · exact .refl s
    · refine shifts_foldl _ (fun s l => ?_) _ s
      unfold latchLane
      split
      · exact .refl s
      · exact shifts_aside rfl

theorem shifts_reqReadSnapshot (lane : Nat) (s : State) : Shifts agreed s (reqReadSnapshot lane s).2 := by
  unfold reqReadSnapshot
  split
  · exact .refl s
  · rename_i l _
    split
    · have read : Shifts agreed s (s.modLane l fun c => { c with latch := none }) := shifts_aside rfl
      exact read
    · exact .refl s

theorem shifts_reqReleaseLane (lane : Nat) (s : State) : Shifts agreed s (reqReleaseLane lane s).2 := by
  unfold reqReleaseLane
  split
  · exact .refl s
  · split
    · exact shifts_endHold _ s
    · exact .refl s

/-- A listed job is cancelled: a RUNNING one leaves its lane, which measures where jobs and lanes agree (R77, R101). -/
theorem shifts_cancelJob {j : Job} (runs : ∀ l, j.running = some l → agreed → isMeasuring (s.lane l).state = true) :
    Shifts agreed s (cancelJob s j) := by
  unfold cancelJob
  split
  · exact (still_of_endsInList (endsInList_endInList _ s j)).shifts
  · rename_i l running
    exact shifts_endJob j (reportFits_bareEnd _ _) (runs l running)

end

/-- The lane of a RUNNING job measures (R60, R84). -/
theorem AttachmentsAgree.measuring {s : State} (h : AttachmentsAgree s) {j : Job} (hj : j ∈ s.jobs) {l : Lane}
    (running : j.running = some l) : isMeasuring (s.lane l).state = true := by
  rw [← (h.1 l).2, (h.running hj l).1 running]
  rfl

/-- A listed job leaves the list at its cancel, and jobs and lanes stay in agreement. -/
theorem WorkAgrees.cancelJob {s : State} (h : WorkAgrees s) {j : Job} (hj : j ∈ s.jobs) :
    WorkAgrees (cancelJob s j) ∧ (cancelJob s j).jobs = s.jobs.eraseP fun x => x.id == j.id := by
  unfold Machine.cancelJob
  split
  · rename_i queued
    exact ⟨h.endInList _ hj queued, jobs_endInList _ s j⟩
  · rename_i l running
    exact ⟨h.endJob hj ((h.attached.running hj l).1 running) _ rfl, jobs_endJob l j _ _ s⟩

/-- Listed jobs are cancelled one after another. -/
theorem shifts_cancel {agreed : Prop} {s : State} {gone : List Job} (once : agreed → (gone.map (·.id)).Nodup)
    (work : agreed → WorkAgrees s) (listed : agreed → ∀ j ∈ gone, j ∈ s.jobs) :
    Shifts agreed s (gone.foldl cancelJob s) := by
  induction gone generalizing s with
  | nil => exact .refl s
  | cons j rest ih =>
    have first : Shifts agreed s (cancelJob s j) := shifts_cancelJob fun l running a =>
      (work a).attached.measuring (listed a j List.mem_cons_self) running
    have left (a : agreed) : WorkAgrees (cancelJob s j)
        ∧ (cancelJob s j).jobs = s.jobs.eraseP fun x => x.id == j.id :=
      (work a).cancelJob (listed a j List.mem_cons_self)
    refine first.trans (ih (fun a => (List.nodup_cons.1 (once a)).2) (fun a => (left a).1) fun a x hx => ?_)
    rw [(left a).2, mem_eraseP_id (work a).slots]
    exact ⟨listed a x (List.mem_cons_of_mem _ hx),
      fun e => (List.nodup_cons.1 (once a)).1 (List.mem_map.2 ⟨x, hx, e⟩)⟩

end Sys2Proof.Machine
end

section
/-!
SUPPORT. Which moves a request, a byte on RXD and a whole command make (R174 to R183). A check interval and a reset change the
reference as well, and stand beside the moves.
-/
namespace Sys2Proof.Machine

section
variable {agreed : Prop} {s t u : State}

/-! ### Requests by their owners -/

theorem shifts_reqCancel (selector value : Nat) (work : agreed → WorkAgrees s) :
    Shifts agreed s (reqCancel selector value s).2 := by
  unfold reqCancel
  split
  · exact .refl s
  · split
    · exact .refl s
    · rename_i x _ _ _ _ chosen
      rw [← chosen]
      exact shifts_cancel (fun a => (work a).slots.ids.sublist (List.filter_sublist.map _)) work
        fun _ _ hj => (List.mem_filter.1 hj).1

/-- Every owner makes moves (R179 step 5). -/
theorem shifts_handle (i : Instr) (work : agreed → WorkAgrees s) : Shifts agreed s (handle i s).2 := by
  obtain ⟨queryLane, readPlan, readLimits, readResult, queryPaths, getConfig⟩ := queries_keep s
  obtain ⟨writePlan, erasePlan, writeLimits, eraseLimits, protect, setConfig, takeCompletion, freeResult, readSamples,
    nextBlock⟩ := writes_still s
  have query {t : State} (e : t = s) : Shifts agreed s t := by
    rw [e]
    exact .refl s
  have link (f : LinkPort → LinkPort) : Still s (s.modLink f) := ⟨rfl, rfl, rfl⟩
  have paused (flag : Bool) : Still s (setPause flag s).2 := ⟨rfl, rfl, rfl⟩
  cases i
  case siteMode => exact (still_reqSiteMode _ _ _ _ s).shifts
  case powerOn => exact (still_reqPowerOn _ s).shifts
  case powerOff => exact shifts_reqPowerOff _ s
  case clearSite => exact (still_reqClearSite _ s).shifts
  case queryLane n => exact query (queryLane n)
  case recalibrate => exact shifts_reqRecalibrate _ s
  case laneModeEnable => exact shifts_reqLaneEnable _ s
  case laneModeDisable => exact shifts_reqLaneDisable _ s
  case writePlan => exact (writePlan _ _).shifts
  case erasePlan => exact (erasePlan _).shifts
  case readPlan n => exact query (readPlan n)
  case writeLimits => exact (writeLimits _ _).shifts
  case eraseLimits => exact (eraseLimits _).shifts
  case readLimits n => exact query (readLimits n)
  case protect => exact (protect _).shifts
  case measure => exact (still_reqMeasure _ _ s).shifts
  case screen => exact (still_reqScreen _ _ s).shifts
  case checkPaths => exact (still_reqCheckPaths _ _ s).shifts
  case cancel => exact shifts_reqCancel _ _ work
  case pause => exact (paused true).shifts
  case resume => exact (paused false).shifts
  case snapshot => exact shifts_reqSnapshot _ s
  case readSnapshot => exact shifts_reqReadSnapshot _ s
  case readSamples => exact (readSamples _ _ _ _).shifts
  case nextBlock => exact nextBlock.shifts
  case releaseLane => exact shifts_reqReleaseLane _ s
  case takeCompletion => exact takeCompletion.shifts
  case readResult n => exact query (readResult n)
  case freeResult => exact (freeResult _).shifts
  case queryPaths n => exact query (queryPaths n)
  case setConfig => exact (setConfig _ _).shifts
  case getConfig n => exact query (getConfig n)
  case readAlerts => exact (link fun k => { k with alerts := .clear }).shifts
  case restart => exact (link fun k => { k with restartOwed := true }).shifts
  all_goals exact .refl s

/-! ### The link -/

/-- What steps 3 to 5 of R179 come to makes moves and keeps the agreement of jobs and lanes. -/
structure ActShifts (act : State → Response × State) : Prop where
  work : ∀ {s}, WorkAgrees s → WorkAgrees (act s).2
  shifts : ∀ {agreed : Prop} {s}, (agreed → WorkAgrees s) → Shifts agreed s (act s).2

theorem actShifts_handle (i : Instr) : ActShifts (handle i) :=
  ⟨keptByOps_workAgrees.handle i, shifts_handle i⟩

theorem actShifts_refuse (x : Status) : ActShifts fun s => (refuse x, s) := ⟨id, fun {_ s} _ => .refl s⟩

theorem actShifts_answer (body : List Byte) : ActShifts (answer body) := by
  refine ⟨keptByOps_workAgrees.answer body, fun work => ?_⟩
  unfold answer
  split
  · exact .refl _
  · exact shifts_handle _ work

theorem shifts_takeBody (body : List Byte) {act : State → Response × State} (ha : ActShifts act)
    (work : agreed → WorkAgrees s) : Shifts agreed s (takeBody body act s) := by
  have ended : Still s (endFollow body s) := still_onlyLink (onlyLink_endFollow body s)
  have agrees (a : agreed) : WorkAgrees (endFollow body s) := by
    unfold endFollow
    split
    · exact work a
    · exact keptByOps_workAgrees.setFollow none (work a)
  simp only [takeBody]
  refine .trans ?_ (still_onlyLink (onlyLink_putReply body _ _)).shifts
  split
  · exact ended.shifts
  · exact ended.shifts.trans (ha.shifts agrees)

theorem shifts_acceptByte (b : Byte) (work : agreed → WorkAgrees s) : Shifts agreed s (acceptByte b s) := by
  have link {t : State} (k : OnlyLink s t) : Shifts agreed s t := (still_onlyLink k).shifts
  unfold acceptByte
  split
  · split
    · split
      · exact link rfl
      · exact link rfl
    · exact .refl s
  · exact link rfl
  · exact link rfl
  · unfold checkByte
    split
    · exact shifts_takeBody _ (actShifts_answer _) work
    · exact link rfl
  · exact link rfl
  · exact link (onlyLink_swallowByte _ b s)

theorem still_setSetup (level : Bool) (s : State) : Still s (setSetup level s) := ⟨rfl, rfl, rfl⟩

theorem workAgrees_setSetup (level : Bool) (h : WorkAgrees s) : WorkAgrees (setSetup level s) :=
  keptByOps_workAgrees.steady (steady_modPins s _) h

theorem shifts_receiveByte (b : Byte) (setup : Bool) (work : agreed → WorkAgrees s) :
    Shifts agreed s (receiveByte b setup s) := by
  unfold receiveByte
  split
  · exact (still_setSetup setup s).shifts.trans (shifts_acceptByte b fun a => workAgrees_setSetup setup (work a))
  · exact .refl s

theorem shifts_feed (setup : Bool) (bytes : List Byte) (work : agreed → WorkAgrees s) :
    Shifts agreed s (feed setup bytes s) := by
  unfold feed
  induction bytes generalizing s with
  | nil => exact .refl s
  | cons b rest ih =>
    exact (shifts_receiveByte b setup work).trans (ih fun a => keptByOps_workAgrees.receiveByte b setup (work a))

theorem shifts_request (setup : Bool) (i : Instr) {act : State → Response × State} (ha : ActShifts act)
    (work : agreed → WorkAgrees s) : Shifts agreed s (request setup i act s) := by
  unfold request
  split
  · exact (still_setSetup setup s).shifts.trans (shifts_takeBody _ ha fun a => workAgrees_setSetup setup (work a))
  · exact shifts_feed setup _ work

theorem shifts_replyComplete (s : State) : Shifts agreed s (replyComplete s) := by
  have ended : Still s (s.modLink fun k => { k with reply := none }) := ⟨rfl, rfl, rfl⟩
  unfold replyComplete
  split
  · exact shifts_issueRestart s
  · exact ended.shifts

theorem shifts_restartIssue (s : State) : Shifts agreed s (restartIssue s) := by
  unfold restartIssue
  split
  · exact shifts_issueRestart s
  · exact .refl s

end

/-! ### Every command -/

/-- What a command comes to: moves, the end of a check interval, or a reset. -/
inductive Comes (s : State) : State → Prop
  | shifts {t : State} (h : Shifts (WorkAgrees s) s t) : Comes s t
  | interval (edges : Nat) : Comes s (checkIntervalEnd edges s)
  | resets {t : State} (contact : BitVec 16) (rate : BitVec 2) (h : Still (resetTo contact rate s) t) : Comes s t

section
variable {s t : State}

theorem Comes.refl (s : State) : Comes s s := .shifts (.refl s)

theorem comes_taken {setup : Bool} {i : Instr} {act : State → Response × State} (ha : ActShifts act)
    (e : taken setup i act s = .next t) : Comes s t := by
  cases e
  exact .shifts (shifts_request setup i ha id)

theorem comes_occurs {f : State → State} (hf : Comes s (f s)) (e : occurs f s = .next t) : Comes s t := by
  cases e
  split
  · exact hf
  · exact .refl s

theorem comes_exec (i : Instr) (e : exec i s = .next t) : Comes s t := by
  have event {f : State → State} (hf : Shifts (WorkAgrees s) s (f s)) (e : occurs f s = .next t) : Comes s t :=
    comes_occurs (.shifts hf) e
  have still {f : State → State} (hf : Still s (f s)) (e : occurs f s = .next t) : Comes s t :=
    event hf.shifts e
  have asked {setup : Bool} (i : Instr) (e : taken setup i (handle i) s = .next t) : Comes s t :=
    comes_taken (actShifts_handle i) e
  cases i
  case badKindRequest => exact comes_taken (actShifts_refuse _) e
  case receiveByte b setup => cases e; exact .shifts (shifts_receiveByte b setup id)
  case gapExpiry => exact still (still_gapExpiry s) e
  case replyComplete => exact event (shifts_replyComplete s) e
  case restartIssue => exact event (shifts_restartIssue s) e
  case restartBusyWindowEnd => exact still (still_restartBusyWindowEnd s) e
  case resetAssert => cases e; exact .resets s.pins.contact s.link.rate ⟨rfl, rfl, rfl⟩
  case resetEnd contact rate =>
    cases e
    unfold resetEnd
    split
    · exact .refl s
    · exact .resets contact rate .rfl
  case serviceTick => exact event (shifts_serviceTick _ _ _ s) e
  case contactRise => exact still (still_contactRise _ s) e
  case contactFall => exact event (shifts_contactFall _ s) e
  case supplyFaultTrip => exact event (shifts_supplyFaultTrip _ s) e
  case settleExpiry => exact still (still_settleExpiry _ s) e
  case quietExpiry => exact still (still_quietExpiry _ s) e
  case checkIntervalEnd edges => exact comes_occurs (.interval edges) e
  case calCounterExpiry => exact event (shifts_calCounterExpiry _ s) e
  case quietTimeCalibration => exact event (shifts_quietTimeCalibration _ s) e
  case calibrationComplete => exact event (shifts_calibrationComplete _ _ _ s) e
  case lanePairing => exact event (shifts_lanePairing s) e
  case attachEnd => exact event (shifts_attachEnd _ s) e
  case noSignalWindowEnd => exact event (shifts_noSignalWindowEnd _ _ s) e
  case coarseFrequencyCheck => exact event (shifts_coarseFrequencyCheck _ _ _ s) e
  case lockAcquired => exact event (shifts_lockAcquired _ _ _ s) e
  case lockWindowEnd => exact event (shifts_lockWindowEnd _ _ _ s) e
  case lossOfLock => exact event (shifts_lossOfLock _ _ _ s) e
  case discardComplete => exact event (shifts_discardComplete _ _ s) e
  case sampleComplete => exact event (shifts_sampleComplete _ _ s) e
  case checkCaptureEnd => exact event (shifts_checkCaptureEnd _ s) e
  case reductionEnd => exact event (shifts_reductionEnd _ s) e
  case budgetExpiry => exact event (shifts_budgetExpiry _ s) e
  case holdExpiry => exact event (shifts_holdExpiry _ s) e
  all_goals exact asked _ e

/-- A step takes the command off the queue, and the command comes to what it comes to. -/
theorem comes_step (e : step s = .next t) : ∃ rest, Comes { s with pending := rest } t := by
  unfold step at e
  split at e
  · cases e
    exact ⟨s.pending, .refl s⟩
  · exact ⟨_, comes_exec _ e⟩

end

end Sys2Proof.Machine
end

section
/-!
SUPPORT. The end of a check interval, as four cases of the monitor, and what it does to lanes, paths and reference (R26, R37).
-/
namespace Sys2Proof.Machine

section
variable {s t : State}

/-- The monitor has entered or left LOCKED, and the lanes have not yet been told (R26). -/
def monitorMoved (r : Reference) (s : State) : State := raiseAlert .reference { s with ref := r }

theorem lanes_monitorMoved (r : Reference) (s : State) : (monitorMoved r s).lanes = s.lanes := rfl

/-- The four ways a check interval ends (R26). -/
inductive IntervalEnd (edges : Nat) (s : State) : State → Prop
  | monitors (unlocked : s.ref.state ≠ .locked) (still : (qualify edges (countedRef edges s.ref)).state ≠ .locked) :
    IntervalEnd edges s { s with ref := qualify edges (countedRef edges s.ref) }
  | locks (unlocked : s.ref.state ≠ .locked) (locked : (qualify edges (countedRef edges s.ref)).state = .locked) :
    IntervalEnd edges s ((lanesInOrder s.laneOrder).foldl gainReference
      (monitorMoved (qualify edges (countedRef edges s.ref)) s))
  | goesOn (locked : s.ref.state = .locked) : IntervalEnd edges s { s with ref := countedRef edges s.ref }
  | loses (locked : s.ref.state = .locked) : IntervalEnd edges s ((lanesInOrder s.laneOrder).foldl loseReference
      (monitorMoved { countedRef edges s.ref with state := .absent, progress := 0, source := .backup } s))

theorem intervalEnd_checkIntervalEnd (edges : Nat) (s : State) : IntervalEnd edges s (checkIntervalEnd edges s) := by
  by_cases locked : s.ref.state = .locked
  · cases good : inCoarseWindow edges with
    | true =>
      rw [checkIntervalEnd_goesOn locked good]
      exact .goesOn locked
    | false =>
      rw [checkIntervalEnd_loses locked good]
      exact .loses locked
  · by_cases locks : (qualify edges (countedRef edges s.ref)).state = .locked
    · rw [checkIntervalEnd_locks locked locks]
      exact .locks locked locks
    · rw [checkIntervalEnd_unlocked locked locks]
      exact .monitors locked locks

theorem onlyLanes_locks (order : Fin 24) (u : State) : OnlyLanes u ((lanesInOrder order).foldl gainReference u) :=
  onlyLanes_foldl onlyLanes_gainReference _ u

theorem keepsRest_loses (order : Fin 24) (u : State) : KeepsRest u ((lanesInOrder order).foldl loseReference u) :=
  keepsRest_foldl loseReference keepsRest_loseReference _ u

/-! ### Lanes -/

/-- A loss of the reference takes a lane by its moves. -/
theorem AtLoss.moves {agreed locked : Prop} {c d : LaneContext} (h : AtLoss c d) : LaneMoves agreed locked c d := by
  unfold AtLoss at h
  split at h
  case h_1 | h_2 | h_3 =>
    rw [h]
  case h_4 e =>
    rw [h]
    exact .single (.stops .uncalibrated (.inl rfl) (by rw [e]; rfl))
  case h_5 e =>
    rw [h]
    exact LaneMove.then_aside (.stops .uncalibrated (.inl rfl) (by rw [e]; rfl)) rfl
  all_goals
    rename_i e
    exact LeftFor.moves h (fun _ => by rw [e]; rfl) rfl

/-- No lane works after a loss of the reference (R37). -/
theorem AtLoss.not_works {c d : LaneContext} (h : AtLoss c d) : works d.state = false := by
  unfold AtLoss at h
  split at h
  case h_1 e | h_2 e | h_3 e =>
    rw [h, e]
    rfl
  case h_4 | h_5 =>
    rw [h]
    rfl
  all_goals
    rw [LeftFor.eq h]
    rfl

/-- The end of a check interval takes each lane by its moves. -/
theorem IntervalEnd.lanes {agreed : Prop} {edges : Nat} (h : IntervalEnd edges s t) (l : Lane) :
    LaneMoves agreed True (s.lane l) (t.lane l) := by
  cases h with
  | monitors | goesOn => exact .refl
  | locks =>
    rw [lane_locks s _ (lanes_monitorMoved _ s)]
    split
    · rename_i e
      exact LaneMove.then_aside (.starts (by rw [e]; rfl) (.inr trivial)) rfl
    · exact .refl
  | loses => exact (atLoss_loses s _ (lanes_monitorMoved _ s) l).moves

/-- Only a LOCKED reference has lanes at work after a check interval. -/
theorem IntervalEnd.lanesNeedReference {edges : Nat} (h : IntervalEnd edges s t) (needs : LanesNeedReference s) :
    LanesNeedReference t := by
  rw [lanesNeedReference_iff] at needs ⊢
  intro l working
  cases h with
  | monitors unlocked => exact absurd (needs l working) unlocked
  | locks unlocked locked => rwa [onlyLanes_locks]
  | goesOn locked => exact locked
  | loses locked => rw [(atLoss_loses s _ (lanes_monitorMoved _ s) l).not_works] at working; cases working

/-! ### Paths -/

theorem PathsMove.keeps (h : PathsMove s t) (entries : PathEntriesAgree s) : PathEntriesAgree t := by
  rw [pathEntriesAgree_iff] at entries ⊢
  intro i l
  rcases h i l with same | written
  · rw [same]
    exact entries i l
  · exact written

theorem pathsMove_loseReference (s : State) (l : Lane) : PathsMove s (loseReference s l) := by
  unfold loseReference
  split
  case h_1 | h_2 | h_3 | h_4 | h_5 => exact fun _ _ => .inl rfl
  all_goals exact path_giveBack_fits l .refLost .uncalibrated s

theorem IntervalEnd.paths {edges : Nat} (h : IntervalEnd edges s t) : PathsMove s t := by
  cases h with
  | monitors | goesOn => exact fun _ _ => .inl rfl
  | locks =>
    rw [onlyLanes_locks]
    exact fun _ _ => .inl rfl
  | loses =>
    exact foldl_related PathsMove (fun _ _ _ => .inl rfl) (fun _ _ _ => .trans) loseReference pathsMove_loseReference _ _

/-! ### The reference -/

/-- Progress and tick source agree with the state of the monitor (R26 to R29). -/
def MonitorAgrees (r : Reference) : Prop :=
  match r.state with
  | .absent => r.progress = 0 ∧ r.source = .backup
  | .qualifying => r.progress < 200 ∧ r.source = .backup
  | .locked => r.progress = 200 ∧ r.source = .refin

theorem referenceAgrees_iff : ReferenceAgrees s ↔ MonitorAgrees s.ref := Iff.rfl

/-- Outside LOCKED the tick source is the backup timebase (R29). -/
theorem MonitorAgrees.backup {r : Reference} (h : MonitorAgrees r) (unlocked : r.state ≠ .locked) :
    r.source = .backup := by
  unfold MonitorAgrees at h
  split at h
  case h_1 | h_2 => exact h.2
  case h_3 locked => exact absurd locked unlocked

theorem MonitorAgrees.congr {r q : Reference} (h : MonitorAgrees r) (state : q.state = r.state)
    (progress : q.progress = r.progress) (source : q.source = r.source) : MonitorAgrees q := by
  unfold MonitorAgrees
  rwa [state, progress, source]

/-- The table of R26 leaves progress and tick source in agreement. -/
theorem monitorAgrees_qualify {r : Reference} (edges : Nat) (backup : r.source = .backup) :
    MonitorAgrees (qualify edges r) := by
  by_cases none : edges = 0
  · rw [none, qualify_noEdge]
    exact ⟨rfl, backup⟩
  · cases good : inCoarseWindow edges with
    | false =>
      rw [qualify_outside none good]
      exact ⟨Nat.zero_lt_succ 199, backup⟩
    | true =>
      rw [qualify_within none good]
      split
      · exact ⟨rfl, rfl⟩
      · rename_i few
        exact ⟨Nat.not_le.1 few, backup⟩

theorem IntervalEnd.reference {edges : Nat} (h : IntervalEnd edges s t) (agrees : ReferenceAgrees s) :
    ReferenceAgrees t := by
  rw [referenceAgrees_iff] at agrees ⊢
  cases h with
  | monitors unlocked => exact monitorAgrees_qualify edges (agrees.backup unlocked)
  | locks unlocked =>
    rw [onlyLanes_locks]
    exact monitorAgrees_qualify edges (agrees.backup unlocked)
  | goesOn => exact agrees.congr rfl rfl rfl
  | loses =>
    rw [(keepsRest_loses s.laneOrder _).ref]
    exact ⟨rfl, rfl⟩

end

end Sys2Proof.Machine
end

section
/-!
SUPPORT. The invariants of lanes, rings, reference and paths, read off the moves (R26 to R29, R31, R34, R37, R91, R144, R150,
R161).
-/
namespace Sys2Proof.Machine

section
variable {s t : State}

/-- A property that moves, check intervals and resets keep is kept by every step. -/
theorem kept_of_comes {P : State → Prop} (shifts : ∀ {agreed s t}, Shifts agreed s t → P s → P t)
    (interval : ∀ {edges s t}, IntervalEnd edges s t → P s → P t)
    (reset : ∀ contact rate s, P (resetTo contact rate s)) : Kept P := by
  intro s t hs e
  obtain ⟨rest, comes⟩ := comes_step e
  have pulled : Still s { s with pending := rest } := ⟨rfl, rfl, rfl⟩
  have taken : P { s with pending := rest } := shifts (agreed := True) pulled.shifts hs
  cases comes with
  | shifts h => exact shifts h taken
  | interval edges => exact interval (intervalEnd_checkIntervalEnd edges _) taken
  | resets contact rate h => exact shifts (agreed := True) h.shifts (reset contact rate _)

/-- The due count, the hold and the need of a reference, of every lane (R31, R34, R37, R150). -/
def LanesFit (s : State) : Prop := DueCountBounded s ∧ HoldFitsLane s ∧ LanesNeedReference s

theorem LanesFit.shifts {agreed : Prop} (h : LanesFit s) (m : Shifts agreed s t) (a : agreed) : LanesFit t := by
  obtain ⟨due, hold, needs⟩ := h
  rw [lanesNeedReference_iff] at needs
  refine ⟨fun l => DueFits.moves (due l) (m.lanes l) a, fun l => HoldFits.moves (hold l) (m.lanes l) a,
    lanesNeedReference_iff.2 fun l working => ?_⟩
  rw [m.refState]
  exact ((m.lanes l).works a working).elim (needs l) id

theorem LanesFit.interval {edges : Nat} (h : LanesFit s) (m : IntervalEnd edges s t) : LanesFit t := by
  obtain ⟨due, hold, needs⟩ := h
  exact ⟨fun l => DueFits.moves (due l) (m.lanes (agreed := True) l) trivial,
    fun l => HoldFits.moves (hold l) (m.lanes (agreed := True) l) trivial, m.lanesNeedReference needs⟩

theorem lanesFit_resetTo (contact : BitVec 16) (rate : BitVec 2) (s : State) : LanesFit (resetTo contact rate s) := by
  refine ⟨fun l => ?_, fun l => ?_, fun l => ?_⟩ <;> rw [lane_resetTo]
  · exact ⟨by decide, by decide, nofun⟩
  · exact ⟨fun _ => rfl, nofun⟩
  · exact trivial

/-- Settles O59: each command keeps jobs and lanes in agreement, so a lane leaves a job only from a measuring state, and the
moves of a lane keep the rest. -/
theorem lanesKept : Obligations.LanesKept := by
  unfold Obligations.LanesKept
  intro s t ⟨slots, attached, fits⟩ e
  obtain ⟨slots', attached'⟩ := keptByOps_workAgrees.kept s t ⟨slots, attached⟩ e
  refine ⟨slots', attached', ?_⟩
  obtain ⟨rest, comes⟩ := comes_step e
  have taken : LanesFit { s with pending := rest } := fits
  cases comes with
  | shifts m => exact taken.shifts m ⟨slots, attached⟩
  | interval edges => exact taken.interval (intervalEnd_checkIntervalEnd edges _)
  | resets contact rate still =>
    exact (lanesFit_resetTo contact rate _).shifts (agreed := True) still.shifts trivial

theorem kept_ringFitsCount : Kept RingFitsCount := by
  refine kept_of_comes (fun m h l => RingFits.moves (h l) (m.lanes l))
    (fun m h l => RingFits.moves (h l) (m.lanes (agreed := True) l)) fun contact rate s l => ?_
  rw [lane_resetTo]
  exact ⟨rfl, rfl⟩

theorem kept_referenceAgrees : Kept ReferenceAgrees :=
  kept_of_comes (fun m h => MonitorAgrees.congr h m.refState m.progress m.source) (fun m => m.reference)
    fun _ _ _ => ⟨rfl, rfl⟩

theorem kept_pathEntriesAgree : Kept PathEntriesAgree := by
  refine kept_of_comes (fun m => PathsMove.keeps m.paths) (fun m => m.paths.keeps) fun contact rate s i l => ?_
  rw [path_resetTo]
  exact ⟨rfl, rfl, rfl⟩

/-- Settles O55: the ring of a lane by its moves, the reference by the table of R26, and a path entry by the check that
writes it. -/
theorem recordsKept : Obligations.RecordsKept := ⟨kept_ringFitsCount, kept_referenceAgrees, kept_pathEntriesAgree⟩

end

end Sys2Proof.Machine
end

section
/-!
SUPPORT. The requests of the Plan Store: what a record and a list must be, the refusals in their order, and the boundary (R45
to R57).
-/
namespace Sys2Proof.Machine

/-! ### The conditions on a record and on a list (R45, R46, R48) -/

theorem inOffsetRange_iff {p : Plan} {x : Nat} : inOffsetRange p x = true ↔
    2 * p.nominal ≤ x * p.stride * 1024 ∧ x * p.stride * 1024 ≤ 511 * p.nominal := by
  simp [inOffsetRange]

/-- Each offset above the one before it is each offset above all before it. -/
theorem ascending_iff_pairwise (l : List Nat) : ascending l = true ↔ l.Pairwise (· < ·) := by
  rw [← List.isChain_iff_pairwise]
  induction l with
  | nil => simp [ascending]
  | cons x rest ih =>
    cases rest with
    | nil => simp [ascending]
    | cons y rest => simp [ascending, ih]

theorem bandValid_iff {p : Plan} : bandValid p = true ↔
    (p.hasPhase = true ↔ p.band.isSome = true)
      ∧ ∀ lo hi, p.band = some (lo, hi) → lo < hi ∧ inOffsetRange p lo = true ∧ inOffsetRange p hi = true := by
  unfold bandValid
  cases p.band with
  | none => simp
  | some b => obtain ⟨lo, hi⟩ := b; simp +contextual [and_assoc]

theorem spotsValid_iff {p : Plan} : spotsValid p = true ↔
    (p.hasPhase ≠ true → p.spots = []) ∧ p.spots.length ≤ 8 ∧ p.spots.Pairwise (· < ·)
      ∧ ∀ x ∈ p.spots, inOffsetRange p x = true := by
  have empty : (p.hasPhase || p.spots.isEmpty) = true ↔ (p.hasPhase ≠ true → p.spots = []) := by
    cases p.hasPhase <;> simp
  simp only [spotsValid, Bool.and_eq_true, empty, ascending_iff_pairwise, List.all_eq_true, decide_eq_true_eq, and_assoc]

/-- One bound of a comparison is fixed, and a range has its bounds in order. -/
theorem entryValid_iff {e : LimitEntry} : entryValid e = true ↔
    e.selector ≤ 15 ∧ e.comparison ≤ 2 ∧ (1 ≤ e.bin ∧ e.bin ≤ 6)
      ∧ (e.comparison = 0 → e.lo = 0) ∧ (e.comparison = 1 → e.hi = 0) ∧ (e.comparison = 2 → e.lo ≤ e.hi) := by
  simp only [entryValid, Bool.and_eq_true, decide_eq_true_eq, and_assoc]
  refine and_congr_right fun _ => and_congr_right fun small => and_congr_right fun _ => and_congr_right fun _ => ?_
  obtain atMost | atLeast | within : e.comparison = 0 ∨ e.comparison = 1 ∨ e.comparison = 2 := by omega
  · simp [atMost]
  · simp [atLeast]
  · simp [within]

theorem planValid_iff {calPeriod : Nat} {p : Plan} : planValid calPeriod p = true ↔
    (1000000 ≤ p.nominal ∧ p.nominal ≤ 250000000) ∧ p.edge ≤ 1 ∧ p.flags.toNat < 4
      ∧ (1 ≤ p.stride ∧ p.stride ≤ 4096) ∧ (1 ≤ p.discard ∧ p.discard ≤ 64)
      ∧ (10 ≤ p.sampleExp ∧ p.sampleExp ≤ 16) ∧ (1 ≤ p.metrics.toNat ∧ p.metrics.toNat ≤ 15)
      ∧ (p.hasPhase = true → 11 ≤ p.sampleExp) ∧ bandValid p = true ∧ spotsValid p = true
      ∧ (∀ n, p.limitSet = some n → n ≤ 15) ∧ p.retryLimit ≤ 3
      ∧ (10 ≤ p.budget ∧ p.budget ≤ 30000 ∧ p.budget ≤ 2 * calPeriod) ∧ (1 ≤ p.window ∧ p.window ≤ 2000) := by
  have limit : fitsOpt (fun n => decide (n < 16)) p.limitSet = true ↔ ∀ n, p.limitSet = some n → n ≤ 15 := by
    cases p.limitSet <;> simp [fitsOpt, Nat.lt_succ_iff (n := 15)]
  have phase : (!p.hasPhase || decide (11 ≤ p.sampleExp)) = true ↔ (p.hasPhase = true → 11 ≤ p.sampleExp) := by
    cases p.hasPhase <;> simp
  have metrics : (p.metrics.toNat ≠ 0 ∧ p.metrics.toNat < 16) ↔ (1 ≤ p.metrics.toNat ∧ p.metrics.toNat ≤ 15) := by
    omega
  simp only [planValid, Bool.and_eq_true, limit, phase, decide_eq_true_eq, bne_iff_ne, metrics, and_assoc]

/-- Settles O21: the conditions of a record and of an entry, the band's and the spots' by their own lemmas. -/
theorem planAndLimitConditions : Obligations.PlanAndLimitConditions := by
  unfold Obligations.PlanAndLimitConditions
  refine ⟨fun calPeriod p => ?_, fun l => ?_⟩
  · simp only [planValid_iff, bandValid_iff, spotsValid_iff, inOffsetRange_iff, Plan.hasPhase, and_assoc]
  · simp only [limitsValid, Bool.and_eq_true, decide_eq_true_eq, List.all_eq_true, entryValid_iff]

/-! ### Protection and use (R49, R50) -/

theorem planProtected_iff {s : State} {p : PlanIx} : planProtected s p = true ↔ p.val < s.store.boundary := by
  simp [planProtected]

theorem planInUse_iff {s : State} {p : PlanIx} : planInUse s p = true ↔ ∃ j ∈ s.jobs, j.work = .measure p := by
  simp [planInUse]

theorem namesLimits_iff {s : State} {x : LimitIx} {p : PlanIx} :
    namesLimits s x p = true ↔ ∃ r, s.plan p = some r ∧ r.limitSet = some x.val := by
  unfold namesLimits
  cases s.plan p <;> simp

theorem limitsProtected_iff {s : State} {x : LimitIx} : limitsProtected s x = true ↔
    ∃ p : PlanIx, p.val < s.store.boundary ∧ ∃ r, s.plan p = some r ∧ r.limitSet = some x.val := by
  simp [limitsProtected, allPlans, planProtected_iff, namesLimits_iff]

theorem limitsInUse_iff {s : State} {x : LimitIx} : limitsInUse s x = true ↔
    ∃ p, (∃ r, s.plan p = some r ∧ r.limitSet = some x.val) ∧ ∃ j ∈ s.jobs, j.work = .measure p := by
  simp [limitsInUse, allPlans, namesLimits_iff, planInUse_iff]

/-! ### WRITE and ERASE (R51, R52, R54, R55) -/

theorem reqWritePlan_bad {n : Nat} (h : 24 ≤ n) (plan : Plan) (s : State) :
    reqWritePlan n plan s = (refuse .badField, s) := by
  rw [reqWritePlan, planOf?_none h]

theorem reqErasePlan_bad {n : Nat} (h : 24 ≤ n) (s : State) : reqErasePlan n s = (refuse .badField, s) := by
  rw [reqErasePlan, planOf?_none h]

theorem reqWriteLimits_bad {n : Nat} (h : 16 ≤ n) (entries : List LimitEntry) (s : State) :
    reqWriteLimits n entries s = (refuse .badField, s) := by
  rw [reqWriteLimits, limitOf?_none h]

theorem reqEraseLimits_bad {n : Nat} (h : 16 ≤ n) (s : State) : reqEraseLimits n s = (refuse .badField, s) := by
  rw [reqEraseLimits, limitOf?_none h]

/-- What a write to the store comes to once its operands are taken: PROTECTED, then IN_USE, else the change (R49, R50). -/
def guarded (locked used : Bool) (put : State → State) (s : State) : Response × State :=
  if locked then (refuse .isProtected, s) else if used then (refuse .inUse, s) else (okWith [], put s)

theorem guarded_answers {locked used : Bool} {isLocked isUsed : Prop} (hl : locked = true ↔ isLocked)
    (hu : used = true ↔ isUsed) (put : State → State) (s : State) :
    (isLocked → guarded locked used put s = (refuse .isProtected, s))
      ∧ (¬ isLocked → isUsed → guarded locked used put s = (refuse .inUse, s))
      ∧ (¬ isLocked → ¬ isUsed → guarded locked used put s = (okWith [], put s)) := by
  rw [← hl, ← hu]
  cases locked <;> cases used <;> simp [guarded]

theorem reqErasePlan_val (p : PlanIx) (s : State) :
    reqErasePlan p.val s = guarded (planProtected s p) (planInUse s p) (setPlan p none) s := by
  rw [reqErasePlan, planOf?_val]
  rfl

theorem reqWritePlan_invalid {plan : Plan} {s : State} (h : planValid s.settings.calPeriod plan = false) (p : PlanIx) :
    reqWritePlan p.val plan s = (refuse .badField, s) := by
  simp [reqWritePlan, planOf?_val, h]

theorem reqWritePlan_valid {plan : Plan} {s : State} (h : planValid s.settings.calPeriod plan = true) (p : PlanIx) :
    reqWritePlan p.val plan s = guarded (planProtected s p) (planInUse s p) (setPlan p (some plan)) s := by
  simp [reqWritePlan, planOf?_val, h, guarded]

theorem reqEraseLimits_val (x : LimitIx) (s : State) :
    reqEraseLimits x.val s = guarded (limitsProtected s x) (limitsInUse s x) (setLimits x none) s := by
  rw [reqEraseLimits, limitOf?_val]
  rfl

theorem reqWriteLimits_invalid {entries : List LimitEntry} (h : limitsValid entries = false) (x : LimitIx) (s : State) :
    reqWriteLimits x.val entries s = (refuse .badField, s) := by
  simp [reqWriteLimits, limitOf?_val, h]

theorem reqWriteLimits_valid {entries : List LimitEntry} (h : limitsValid entries = true) (x : LimitIx) (s : State) :
    reqWriteLimits x.val entries s
      = guarded (limitsProtected s x) (limitsInUse s x) (setLimits x (some entries)) s := by
  simp [reqWriteLimits, limitOf?_val, h, guarded]

/-- Settles O20: BAD_FIELD by the operands, and then `guarded`; what it tests is the same with the follow context ended. -/
theorem planAndLimitWritesChecked : Obligations.PlanAndLimitWritesChecked := by
  unfold Obligations.PlanAndLimitWritesChecked
  constructor
  · refine fun s tag index plan ht => ⟨fun h => ⟨request_answers ht (reqWritePlan_bad h plan _),
      request_answers ht (reqErasePlan_bad h _)⟩, ?_⟩
    rintro p rfl
    have write (ok : planValid s.link.settings.calPeriod plan = true) :=
      reqWritePlan_valid (s := setFollow none s) ok p
    have erase := reqErasePlan_val p (setFollow none s)
    have lock := planProtected_iff (s := setFollow none s) (p := p)
    have use := planInUse_iff (s := setFollow none s) (p := p)
    obtain ⟨wLocked, wUsed, wFree⟩ := guarded_answers lock use (setPlan p (some plan)) (setFollow none s)
    obtain ⟨eLocked, eUsed, eFree⟩ := guarded_answers lock use (setPlan p none) (setFollow none s)
    exact ⟨fun bad => request_answers ht (reqWritePlan_invalid (s := setFollow none s) bad p),
      fun ok locked => request_answers ht ((write ok).trans (wLocked locked)),
      fun ok unlocked used => request_answers ht ((write ok).trans (wUsed unlocked used)),
      fun ok unlocked unused => request_answers ht ((write ok).trans (wFree unlocked unused)),
      fun locked => request_answers ht (erase.trans (eLocked locked)),
      fun unlocked used => request_answers ht (erase.trans (eUsed unlocked used)),
      fun unlocked unused => request_answers ht (erase.trans (eFree unlocked unused))⟩
  · refine fun s tag index entries ht => ⟨fun h => ⟨request_answers ht (reqWriteLimits_bad h entries _),
      request_answers ht (reqEraseLimits_bad h _)⟩, ?_⟩
    rintro x rfl
    have write (ok : limitsValid entries = true) := reqWriteLimits_valid ok x (setFollow none s)
    have erase := reqEraseLimits_val x (setFollow none s)
    have lock := limitsProtected_iff (s := setFollow none s) (x := x)
    have use := limitsInUse_iff (s := setFollow none s) (x := x)
    obtain ⟨wLocked, wUsed, wFree⟩ := guarded_answers lock use (setLimits x (some entries)) (setFollow none s)
    obtain ⟨eLocked, eUsed, eFree⟩ := guarded_answers lock use (setLimits x none) (setFollow none s)
    exact ⟨fun bad => request_answers ht (reqWriteLimits_invalid bad x (setFollow none s)),
      fun ok locked => request_answers ht ((write ok).trans (wLocked locked)),
      fun ok unlocked used => request_answers ht ((write ok).trans (wUsed unlocked used)),
      fun ok unlocked unused => request_answers ht ((write ok).trans (wFree unlocked unused)),
      fun locked => request_answers ht (erase.trans (eLocked locked)),
      fun unlocked used => request_answers ht (erase.trans (eUsed unlocked used)),
      fun unlocked unused => request_answers ht (erase.trans (eFree unlocked unused))⟩

/-! ### PROTECT (R57) -/

theorem reqProtect_moves {b : Nat} {s : State} (inRange : b ≤ 24) (free : s.store.boundary ≤ b ∨ s.pins.setup = true) :
    reqProtect (some b) s = (okWith (be8 b), s.modStore fun x => { x with boundary := b }) := by
  simp [reqProtect, Nat.not_lt.2 inRange, free]

theorem reqProtect_refuses {b : Nat} {s : State} (inRange : b ≤ 24) (lower : b < s.store.boundary)
    (low : s.pins.setup = false) : reqProtect (some b) s = (refuse .isProtected, s) := by
  simp [reqProtect, Nat.not_lt.2 inRange, Nat.not_le.2 lower, low]

theorem reqProtect_bad {b : Nat} (h : 25 ≤ b) (s : State) : reqProtect (some b) s = (refuse .badField, s) :=
  if_pos h

/-- PROTECT, taken with SETUP at a level, leaves its owner's answer pending. -/
theorem protect_answers {s t : State} {tag : Byte} {b : Option Nat} {level : Bool} {x : Status} {data : ReplyData}
    (ht : Takes s) (hx : x ≠ .badKind) (ha : reqProtect b (setFollow none (setSetup level s)) = (⟨x, data⟩, t)) :
    exec (.protect tag b level) s = .next (replied 0x96 tag x data t) :=
  taken_eq ht rfl (by decide) (by decide) hx ha

/-- Settles O23: the report, the refusal above 24, and a raise or a lowering by SETUP. -/
theorem protectMovesBoundary : Obligations.ProtectMovesBoundary := by
  unfold Obligations.ProtectMovesBoundary
  intro s tag level ht u
  refine ⟨protect_answers ht (by decide) rfl, fun b => ⟨fun h => ?_, fun h raise => ?_,
    fun h _ high => ?_, fun h lower low => ?_⟩⟩
  · exact protect_answers ht (by decide) (reqProtect_bad h _)
  · exact protect_answers ht (by decide) (reqProtect_moves h (.inl raise))
  · exact protect_answers ht (by decide) (reqProtect_moves h (.inr high))
  · exact protect_answers ht (by decide) (reqProtect_refuses h lower low)

end Sys2Proof.Machine
end

section
/-!
SUPPORT. The rows of attach and acquisition: the attach end, the no-signal window, the coarse check and the lock tests, and
the tracker edge by edge (R44, R85 to R88, R94, R106).
-/
namespace Sys2Proof.Machine

/-! ### The run of a job on its lane -/

/-- What a finding of R86 to R89 hands at the end of a job: its code, or for a CHECK job NORMAL with the path BAD. -/
def findingReport (w : Work) (code : TermCode) (coarse : Option Int) : EndReport :=
  match w with
  | .measure _ => bareEnd code coarse
  | .check _ => ⟨.normal, coarse, .none, [], .none, some .bad⟩

/-- A lane runs a listed job of its kind, with the parameters of its run. -/
structure RunsJob (s : State) (l : Lane) (j : Job) (p : RunParams) : Prop where
  job : laneJob s l = some j
  params : paramsOf s j.work = some p
  kind : (s.lane l).run.kind = some j.work.kind

section
variable {s u : State} {l : Lane} {j : Job} {p : RunParams}

theorem RunsJob.laneRun (h : RunsJob s l j p) : laneRun s l = some (j, p) := by
  simp [Machine.laneRun, h.job, h.params]

/-- A run outlasts what leaves the jobs, the store and the lane's attachment. -/
theorem RunsJob.same (h : RunsJob s l j p) (jc : u.jc = s.jc) (store : u.store = s.store)
    (jobId : (u.lane l).run.jobId = (s.lane l).run.jobId) (kind : (u.lane l).run.kind = (s.lane l).run.kind) :
    RunsJob u l j p := by
  refine ⟨?_, ?_, kind.trans h.kind⟩
  · have find : u.findJob = s.findJob := funext fun id => by rw [State.findJob, State.findJob, jc]
    rw [← h.job, laneJob, laneJob, jobId, find]
  · rw [← h.params]
    simp only [paramsOf, State.plan, store]

/-- A finding ends the job on its lane with the coarse error found so far (R94, R106). -/
theorem RunsJob.acquisitionEnd (h : RunsJob s l j p) (code : TermCode) :
    acquisitionEnd l code s = endJob l j (findingReport j.work code (s.lane l).run.coarse) .idle s := by
  unfold Machine.acquisitionEnd laneEnd
  rw [h.kind, h.job]
  cases j.work <;> rfl

theorem RunsJob.takeEdges (h : RunsJob s l j p) (edges : List EdgeRun) : RunsJob (takeEdges l p edges s) l j p :=
  h.same rfl rfl (by simp [Machine.takeEdges]) (by simp [Machine.takeEdges])

@[simp] theorem coarse_takeEdges (l : Lane) (p : RunParams) (edges : List EdgeRun) (s : State) :
    ((takeEdges l p edges s).lane l).run.coarse = (s.lane l).run.coarse := by
  simp [takeEdges]

/-! ### The tests of acquisition (R85 to R88) -/

theorem attachEnd_due (attaching : (s.lane l).state = .attaching) (due : (s.lane l).run.attach.due = true) :
    attachEnd l s = s.modLane l fun c =>
      { c with state := .acquiring, run := { c.run with attach := .idle, attachEnd := some s.now } } :=
  if_pos ⟨attaching, due⟩

/-- The no-signal window's end, at its tick or after it, by the number of edges (R86). -/
theorem RunsJob.noSignalWindowEnd (h : RunsJob s l j p) (acquiring : (s.lane l).state = .acquiring)
    (unseen : (s.lane l).run.signalSeen = false) (age : 2 ≤ acquireAge s l) (edges : List EdgeRun) :
    noSignalWindowEnd l edges s =
      if edgeCount (chosenEdges p edges) = 0 then Machine.acquisitionEnd l .noSignal s
      else (Machine.takeEdges l p edges s).modLane l fun c => { c with run := { c.run with signalSeen := true } } := by
  have due : (s.lane l).state = .acquiring ∧ (!(s.lane l).run.signalSeen) = true
      ∧ Config.noSignalTicks ≤ acquireAge s l := ⟨acquiring, by rw [unseen]; rfl, age⟩
  simp only [Machine.noSignalWindowEnd, if_pos due, h.laneRun]

/-- The error that the coarse check stores (R87). -/
def coarseFound (p : RunParams) (edges : List EdgeRun) (s : State) : Int :=
  roundPpb ((coarseError? p.nominal (edgeCount (chosenEdges p edges)) (edgeSpan (chosenEdges p edges))).getD
    (Config.freeRat s.free))

/-- The coarse check has been made: its edges are taken in and its error is stored (R87, R88). -/
def coarseChecked (l : Lane) (p : RunParams) (edges : List EdgeRun) (s : State) : State :=
  (takeEdges l p edges s.draw).modLane l fun c => { c with run := { c.run with coarse := some (coarseFound p edges s) } }

/-- The coarse check, at its tick or after it: too few edges, an error beyond the window, or the lock test of its tick
(R87, R88). -/
theorem RunsJob.coarseFrequencyCheck (h : RunsJob s l j p) (acquiring : (s.lane l).state = .acquiring)
    (seen : (s.lane l).run.signalSeen = true) (first : (s.lane l).run.coarse = none) (age : 4 ≤ acquireAge s l)
    (edges : List EdgeRun) (time : Rat) : coarseFrequencyCheck l edges time s =
      if edgeCount (chosenEdges p edges) < 2 then Machine.acquisitionEnd l .noSignal s
      else if beyondWindow p (coarseFound p edges s) then
        Machine.acquisitionEnd l .offFrequency (coarseChecked l p edges s)
      else lockTest l p time id (coarseChecked l p edges s) := by
  have due : (s.lane l).state = .acquiring ∧ (s.lane l).run.signalSeen = true ∧ (s.lane l).run.coarse = none
      ∧ Config.coarseTicks ≤ acquireAge s l := ⟨acquiring, seen, first, age⟩
  simp only [Machine.coarseFrequencyCheck, if_pos due, h.laneRun]
  rfl

theorem RunsJob.coarseChecked (h : RunsJob s l j p) (edges : List EdgeRun) :
    RunsJob (coarseChecked l p edges s) l j p :=
  h.same rfl rfl (by simp [Machine.coarseChecked, Machine.takeEdges])
    (by simp [Machine.coarseChecked, Machine.takeEdges])

theorem coarse_coarseChecked (l : Lane) (p : RunParams) (edges : List EdgeRun) (s : State) :
    ((Machine.coarseChecked l p edges s).lane l).run.coarse = some (coarseFound p edges s) := by
  simp [Machine.coarseChecked]

/-- The error found from edges that span some time (R87). -/
theorem coarseFound_of_span {edges : List EdgeRun} {a b : EdgeRun} (head : (chosenEdges p edges).head? = some a)
    (last : (chosenEdges p edges).getLast? = some b) (span : 0 < lastEdge b - a.first) (s : State) :
    coarseFound p edges s = roundPpb ((((edgeCount (chosenEdges p edges) - 1 : Nat) * (10 ^ 15 : Nat) : Rat)
      / (lastEdge b - a.first) / (p.nominal : Nat) - 1) * (10 ^ 9 : Nat)) := by
  have spans : edgeSpan (chosenEdges p edges) = lastEdge b - a.first := by simp only [edgeSpan, head, last]
  rw [coarseFound, spans, coarseError?, if_pos span, Option.getD_some]

theorem beyondWindow_iff {e : Int} : beyondWindow p e = true ↔ p.window * 1000 < e.natAbs := by
  simp only [beyondWindow, decide_eq_true_eq]
  omega

theorem lockTest_held {time : Rat} {without : State → State}
    (held : holdsLock p.nominal (s.lane l).run.tracker time = true) :
    lockTest l p time without s = enterDiscarding l p s := if_pos held

theorem lockTest_not {time : Rat} {without : State → State}
    (loose : ¬ holdsLock p.nominal (s.lane l).run.tracker time = true) :
    lockTest l p time without s = without s := if_neg loose

/-- A lock test up to e + 40 (R88). -/
theorem RunsJob.lockAcquired (h : RunsJob s l j p) (acquiring : (s.lane l).state = .acquiring)
    (checked : (s.lane l).run.coarse ≠ none) (edges : List EdgeRun) (time : Rat) : lockAcquired l edges time s =
      if acquireAge s l ≤ 40 then lockTest l p time id (Machine.takeEdges l p edges s) else s := by
  simp only [Machine.lockAcquired, acquiring, Option.isSome_iff_ne_none.2 checked, true_and, h.laneRun,
    Config.lockTicks]

/-- The lock test of e + 40 (R88). -/
theorem RunsJob.lockWindowEnd (h : RunsJob s l j p) (acquiring : (s.lane l).state = .acquiring)
    (checked : (s.lane l).run.coarse ≠ none) (edges : List EdgeRun) (time : Rat) : lockWindowEnd l edges time s =
      if 40 ≤ acquireAge s l then
        lockTest l p time (Machine.acquisitionEnd l .noLock) (Machine.takeEdges l p edges s)
      else s := by
  have windowOver : lockWindowOver s l = true ↔ 40 ≤ acquireAge s l := by
    simp [lockWindowOver, acquiring, Option.isSome_iff_ne_none.2 checked]
    rfl
  simp only [Machine.lockWindowEnd, windowOver, h.laneRun]

end

/-! ### The tracker (R86, R88) -/

theorem inTolerance_iff {nominal : Nat} {x : Rat} : inTolerance nominal x = true ↔
    7 * nominalPeriod nominal ≤ 8 * x ∧ 8 * x ≤ 9 * nominalPeriod nominal := by
  simp [inTolerance]

theorem joinsWell_iff {nominal : Nat} {last : Option Rat} {r : EdgeRun} :
    joinsWell nominal last r = true ↔ ∀ e, last = some e → inTolerance nominal (r.first - e) = true := by
  cases last <;> simp [joinsWell]

theorem runsWell_iff {nominal : Nat} {r : EdgeRun} :
    runsWell nominal r = true ↔ (2 ≤ r.count → inTolerance nominal r.period = true) := by
  simp only [runsWell, Bool.or_eq_true, decide_eq_true_eq]
  exact ⟨fun h many => h.resolve_left (by omega), fun h => (Nat.lt_or_ge r.count 2).imp_right h⟩

/-- The tracker passes over edges of the other polarity. -/
theorem track_singleton_of_not {p : RunParams} {r : EdgeRun} (h : r.falling ≠ p.falling ∨ r.count = 0) (t : Tracker) :
    track p [r] t = t := by
  have empty : chosenEdges p [r] = [] := by
    rcases h with h | h <;> simp [chosenEdges, h]
  rw [track, empty, List.foldl_nil]

theorem track_singleton {p : RunParams} {r : EdgeRun} (polarity : r.falling = p.falling) (present : r.count ≠ 0)
    (t : Tracker) : track p [r] t = trackRun p.nominal t r := by
  have one : chosenEdges p [r] = [r] := by simp [chosenEdges, polarity, Nat.pos_of_ne_zero present]
  rw [track, one, List.foldl_cons, List.foldl_nil]

theorem good_trackRun_uneven {nominal : Nat} {r : EdgeRun} (many : 2 ≤ r.count)
    (bad : ¬ inTolerance nominal r.period = true) (t : Tracker) : (trackRun nominal t r).good = 0 :=
  if_neg fun even => bad (runsWell_iff.1 even many)

/-- A run of periods within tolerance that joins on counts on; one that does not starts the count anew (R88). -/
theorem good_trackRun {nominal : Nat} {r : EdgeRun} (even : runsWell nominal r = true) (t : Tracker) :
    (∀ e, t.last = some e → inTolerance nominal (r.first - e) = true →
        (trackRun nominal t r).good = min 1024 (t.good + 1 + (r.count - 1)))
      ∧ ((∀ e, t.last = some e → ¬ inTolerance nominal (r.first - e) = true) →
        (trackRun nominal t r).good = min 1024 (r.count - 1)) := by
  cases last : t.last <;> simp +contextual [trackRun, even, joinsWell, last, Config.lockPeriods]

/-- Settles O50: each row by its own equation, and the tracker run by run. -/
theorem acquisitionSteps : Obligations.AcquisitionSteps := by
  unfold Obligations.AcquisitionSteps
  constructor
  · intro s l j p running job params kind c age fail onRun took held locked
    have run : RunsJob s l j p := ⟨job, params, kind⟩
    have fails (code : TermCode) {u : State} (h : RunsJob u l j p) :
        Host.Outcome.next (acquisitionEnd l code u) = fail code (u.lane l).run.coarse u :=
      congrArg Host.Outcome.next (h.acquisitionEnd code)
    have held_iff (u : State) (time : Rat) :
        holdsLock p.nominal (u.lane l).run.tracker time = true ↔ held u time := holdsLock_iff _ _ _
    refine ⟨fun attaching due => ?_, fun acquiring unseen old edges => ?_,
      fun acquiring seen first old edges since time => ?_, fun acquiring checked edges time => ?_⟩
    · exact (occurs_running running).trans (congrArg Host.Outcome.next (attachEnd_due attaching due))
    · have row : exec (.noSignalWindowEnd l edges) s = .next (noSignalWindowEnd l edges s) := occurs_running running
      rw [row, run.noSignalWindowEnd acquiring unseen old]
      refine ⟨fun empty => ?_, fun ⟨r, hr, polarity, present⟩ => ?_⟩
      · rw [if_pos ((edgeCount_chosen_eq_zero p edges).2 empty)]
        exact fails .noSignal run
      · rw [if_neg fun empty => present ((edgeCount_chosen_eq_zero p edges).1 empty r hr polarity)]
        rfl
    · intro chosen k done
      have row : done = .next (coarseFrequencyCheck l edges time s) := occurs_running running
      rw [run.coarseFrequencyCheck acquiring seen first old] at row
      refine ⟨fun few => ?_, fun enough => ⟨coarseFound p edges s, ?_, ?_⟩⟩
      · rw [row, if_pos (show edgeCount (chosenEdges p edges) < 2 from few), fails .noSignal run, first]
      · exact fun a b head last spans => coarseFound_of_span head last spans s
      · rw [if_neg (show ¬ edgeCount (chosenEdges p edges) < 2 from Nat.not_lt.2 enough)] at row
        intro u
        have lock : holdsLock p.nominal ((coarseChecked l p edges s).lane l).run.tracker time = true ↔ held u time :=
          held_iff u time
        have after : RunsJob (coarseChecked l p edges s) l j p := run.coarseChecked edges
        refine ⟨fun beyond => ?_, fun within holds => ?_, fun within loose => ?_⟩
        · rw [row, if_pos (beyondWindow_iff.2 beyond), fails .offFrequency after, coarse_coarseChecked]
          rfl
        · rw [row, if_neg fun b => Nat.not_lt.2 within (beyondWindow_iff.1 b), lockTest_held (lock.2 holds)]
          rfl
        · rw [row, if_neg fun b => Nat.not_lt.2 within (beyondWindow_iff.1 b),
            lockTest_not fun h => loose (lock.1 h)]
          rfl
    · intro u test last
      have testRow : test = .next (lockAcquired l edges time s) := occurs_running running
      have lastRow : last = .next (lockWindowEnd l edges time s) := occurs_running running
      have lock : holdsLock p.nominal ((takeEdges l p edges s).lane l).run.tracker time = true ↔ held u time :=
        held_iff u time
      rw [run.lockAcquired acquiring checked] at testRow
      rw [run.lockWindowEnd acquiring checked] at lastRow
      refine ⟨fun early holds => ?_, fun early loose => ?_, fun late => ?_, fun late holds => ?_, fun late loose => ?_,
        fun early => ?_⟩
      · rw [testRow, if_pos early, lockTest_held (lock.2 holds)]
        rfl
      · rw [testRow, if_pos early, lockTest_not fun h => loose (lock.1 h)]
        rfl
      · rw [testRow, if_neg (Nat.not_le.2 late)]
      · rw [lastRow, if_pos late, lockTest_held (lock.2 holds)]
        rfl
      · rw [lastRow, if_pos late, lockTest_not fun h => loose (lock.1 h),
          fails .noLock (run.takeEdges edges), coarse_takeEdges]
        rfl
      · rw [lastRow, if_neg (Nat.not_le.2 early)]
  · intro p t r rest period good u
    have good_iff (x : Rat) : inTolerance p.nominal x = true ↔ good x := inTolerance_iff
    refine ⟨track_nil p t, track_cons p r rest t, fun other => track_singleton_of_not other t,
      fun polarity present => ?_⟩
    have u_eq : u = trackRun p.nominal t r := track_singleton polarity present t
    rw [u_eq]
    refine ⟨rfl, fun many bad => good_trackRun_uneven many (fun h => bad ((good_iff _).1 h)) t, fun even => ?_⟩
    have even' : runsWell p.nominal r = true :=
      runsWell_iff.2 fun many => (good_iff _).2 (even.resolve_left (Nat.not_lt.2 many))
    obtain ⟨joins, anew⟩ := good_trackRun even' t
    exact ⟨fun e last h => joins e last ((good_iff _).2 h),
      fun none => anew fun e last h => none e last ((good_iff _).1 h)⟩

end Sys2Proof.Machine
end

section
/-!
SUPPORT. The rows of discard and capture: loss of lock, the discard edge by edge, the samples, and the end of the capture
(R44, R89 to R92, R105, R110, R111, R144).
-/
namespace Sys2Proof.Machine

section
variable {s : State} {l : Lane} {j : Job} {p : RunParams}

/-! ### Loss of lock (R89) -/

theorem overdue_iff {nominal : Nat} {last time : Rat} :
    overdue nominal last time = true ↔ 9 * nominalPeriod nominal < 8 * (time - last) := decide_eq_true_iff

theorem losesLock_iff {edges : List EdgeRun} {time : Rat} : losesLock p edges time = true ↔
    unbroken p.nominal none (chosenEdges p edges) = false
      ∨ ∃ r, (chosenEdges p edges).getLast? = some r ∧ 9 * nominalPeriod p.nominal < 8 * (time - lastEdge r) := by
  simp only [losesLock, Bool.or_eq_true, Bool.not_eq_true', Option.any_eq_true, overdue_iff]

theorem RunsJob.lossOfLock (h : RunsJob s l j p) (at_work : (s.lane l).state = .discarding ∨ (s.lane l).state = .capturing)
    (edges : List EdgeRun) (time : Rat) : lossOfLock l edges time s =
      if losesLock p edges time then Machine.acquisitionEnd l .noLock s else s := by
  simp only [Machine.lossOfLock, if_pos at_work, h.laneRun]

/-! ### The discard (R89, R105) -/

/-- The edges of the discard that a row brings: not more than remain (R89). -/
def discardEdges (s : State) (l : Lane) (p : RunParams) (edges : List EdgeRun) : List EdgeRun :=
  firstEdges (s.lane l).run.discard (chosenEdges p edges)

/-- A lane after edges of its discard (R89). -/
def discarded (p : RunParams) (passing : List EdgeRun) (c : LaneContext) : LaneContext :=
  { c with run := { c.run with
      discard := c.run.discard - edgeCount passing, tracker := track p passing c.run.tracker } }

theorem RunsJob.discardComplete_breaks (h : RunsJob s l j p) (discarding : (s.lane l).state = .discarding)
    {edges : List EdgeRun} (breaks : ¬ unbroken p.nominal (s.lane l).run.tracker.last (discardEdges s l p edges) = true) :
    discardComplete l edges s = Machine.acquisitionEnd l .noLock s := by
  rw [discardEdges, Bool.not_eq_true] at breaks
  simp only [Machine.discardComplete, if_pos discarding, h.laneRun, breaks, Bool.not_false, if_true]

/-- Edges of the discard, each within tolerance (R89). -/
theorem RunsJob.discardComplete_steady (h : RunsJob s l j p) (discarding : (s.lane l).state = .discarding)
    {edges : List EdgeRun} (steady : unbroken p.nominal (s.lane l).run.tracker.last (discardEdges s l p edges) = true) :
    discardComplete l edges s =
      if (s.lane l).run.discard - edgeCount (discardEdges s l p edges) = 0 then
        s.modLane l fun c => enterCapturing (discarded p (discardEdges s l p edges) c)
      else s.modLane l (discarded p (discardEdges s l p edges)) := by
  have left : (Machine.takeEdges l p (discardEdges s l p edges) s).modLane l (fun c => { c with run := { c.run with
        discard := (s.lane l).run.discard - edgeCount (discardEdges s l p edges) } })
      = s.modLane l (discarded p (discardEdges s l p edges)) :=
    (modLane_modLane s l _ _).trans (modLane_congr rfl)
  rw [← modLane_modLane, ← left]
  rw [discardEdges] at steady
  simp only [Machine.discardComplete, if_pos discarding, h.laneRun, steady, Bool.not_true, Bool.false_eq_true, if_false]
  rfl

/-- The lane as it enters CAPTURING, its discard done (R89, R105). -/
theorem RunsJob.enterCapturing (h : RunsJob s l j p) {passing : List EdgeRun}
    (done : (s.lane l).run.discard - edgeCount passing = 0) :
    enterCapturing (discarded p passing (s.lane l)) = { discarded p passing (s.lane l) with
      state := .capturing
      run := { (discarded p passing (s.lane l)).run with
        capture := if j.work.kind = .check then ⟨60, false⟩ else ⟨0, false⟩ } } := by
  have capture : (if (s.lane l).run.kind = some .check then Countdown.load Config.checkCaptureTicks else .idle)
      = if j.work.kind = .check then ⟨60, false⟩ else ⟨0, false⟩ := by
    simp only [h.kind, Option.some.injEq]
    rfl
  simp only [Machine.enterCapturing, discarded, capture, done]

/-! ### Samples (R90, R91, R110, R111, R144) -/

/-- The times of the edges that a sample is looked for in are all of them (R90). -/
theorem edgeTimes_firstEdges (n : Nat) (runs : List EdgeRun) :
    edgeTimes n (firstEdges n runs) = allEdgeTimes (firstEdges n runs) := by
  rw [edgeTimes_eq, allEdgeTimes_firstEdges, List.take_take, Nat.min_self]

/-- The edges up to the end of the next sample's second period (R90, R109). -/
def sampleEdges (s : State) (l : Lane) (p : RunParams) (edges : List EdgeRun) : List EdgeRun :=
  firstEdges (sampleEdge p (s.lane l).captured + 2) (chosenEdges p edges)

theorem RunsJob.sampleComplete_breaks (h : RunsJob s l j p) (capturing : (s.lane l).state = .capturing)
    {edges : List EdgeRun} (breaks : ¬ unbroken p.nominal (s.lane l).run.tracker.last (sampleEdges s l p edges) = true) :
    sampleComplete l edges s = Machine.acquisitionEnd l .noLock s := by
  rw [sampleEdges, Bool.not_eq_true] at breaks
  simp only [Machine.sampleComplete, if_pos capturing, h.laneRun, breaks, Bool.not_false, if_true]

/-- A row whose edges lie within tolerance completes the sample if it brings all three of its edges (R90, R109). -/
theorem RunsJob.sampleComplete_steady (h : RunsJob s l j p) (capturing : (s.lane l).state = .capturing)
    {edges : List EdgeRun} (steady : unbroken p.nominal (s.lane l).run.tracker.last (sampleEdges s l p edges) = true) :
    sampleComplete l edges s =
      match (allEdgeTimes (sampleEdges s l p edges)).drop (sampleEdge p (s.lane l).captured - 1) with
      | [stamp, second, third] =>
        let s1 := s.modLane l (takeSample p j.id ⟨stamp, second - stamp, third - second⟩)
        if p.samples ≤ (s.lane l).captured + 1 then
          enterReducing l (reductionTicks s j ((s.lane l).captured + 1)) s1
        else s1
      | _ => s := by
  rw [sampleEdges] at steady
  simp only [Machine.sampleComplete, if_pos capturing, h.laneRun, steady, Bool.not_true, Bool.false_eq_true, if_false,
    edgeTimes_firstEdges]
  rfl

theorem RunsJob.sampleComplete_short (h : RunsJob s l j p) (capturing : (s.lane l).state = .capturing)
    {edges : List EdgeRun} (steady : unbroken p.nominal (s.lane l).run.tracker.last (sampleEdges s l p edges) = true)
    (short : (allEdgeTimes (sampleEdges s l p edges)).length < sampleEdge p (s.lane l).captured + 2) :
    sampleComplete l edges s = s := by
  rw [h.sampleComplete_steady capturing steady]
  split
  next three =>
    have := congrArg List.length three
    simp only [List.length_drop, List.length_cons, List.length_nil] at this
    omega
  next => rfl

theorem RunsJob.sampleComplete_takes (h : RunsJob s l j p) (capturing : (s.lane l).state = .capturing)
    {edges : List EdgeRun} (steady : unbroken p.nominal (s.lane l).run.tracker.last (sampleEdges s l p edges) = true)
    {t a b : Rat}
    (three : (allEdgeTimes (sampleEdges s l p edges)).drop (sampleEdge p (s.lane l).captured - 1) = [t, a, b]) :
    sampleComplete l edges s =
      if p.samples ≤ (s.lane l).captured + 1 then
        enterReducing l (reductionTicks s j ((s.lane l).captured + 1))
          (s.modLane l (takeSample p j.id ⟨t, a - t, b - a⟩))
      else s.modLane l (takeSample p j.id ⟨t, a - t, b - a⟩) := by
  rw [h.sampleComplete_steady capturing steady, three]

/-- The ring keeps the latest 4,096 raw forms (R91). -/
theorem ringWrite_eq (jobId n : Nat) (r : RawSample) (ring : Option RingContent) : ringWrite jobId n r ring =
    ⟨jobId, n + 1 - 4096, (((ring.map (·.samples)).getD []) ++ [r]).drop
      (((ring.map (·.samples)).getD []).length + 1 - 4096)⟩ := by
  cases ring <;>
    simp only [ringWrite, Config.ringPlaces, Option.map_none, Option.map_some, Option.getD_none, Option.getD_some]

/-! ### The end of the capture (R92, R105) -/

/-- The reduction takes a tick for each started 4,096 samples, and one for a spectrum (R92, R105). -/
theorem reductionTicks_eq (s : State) (j : Job) (n : Nat) : reductionTicks s j n = (n + 4095) / 4096 +
    if (match j.work with
      | .measure x => ((s.plan x).map Plan.hasPhase).getD false
      | .check _ => true) then 1 else 0 := by
  unfold reductionTicks
  cases j.work <;> rfl

theorem RunsJob.checkCaptureEnd (h : RunsJob s l j p) (capturing : (s.lane l).state = .capturing)
    (due : (s.lane l).run.capture.due = true) :
    checkCaptureEnd l s = enterReducing l (reductionTicks s j (s.lane l).captured) s := by
  simp only [Machine.checkCaptureEnd, capturing, due, and_self, if_true, h.job]

end

/-! ### Edges and periods -/

/-- A stretch of edges is unbroken when the periods inside each run, from each run to the next, and from the edge before it
lie within tolerance (R88). -/
theorem unbroken_iff (nominal : Nat) (last : Option Rat) (runs : List EdgeRun) : unbroken nominal last runs = true ↔
    (∀ r ∈ runs, 2 ≤ r.count → inTolerance nominal r.period = true)
      ∧ (∀ before a b after, runs = before ++ a :: b :: after → inTolerance nominal (b.first - lastEdge a) = true)
      ∧ ∀ e r rest, last = some e → runs = r :: rest → inTolerance nominal (r.first - e) = true := by
  induction runs generalizing last with
  | nil => simp [unbroken]
  | cons r rest ih =>
    simp only [unbroken, Bool.and_eq_true, joinsWell_iff, runsWell_iff, ih]
    constructor
    · rintro ⟨⟨joins, even⟩, evens, inner, next⟩
      refine ⟨List.forall_mem_cons.2 ⟨even, evens⟩, fun before a b after split => ?_, ?_⟩
      · cases before with
        | nil =>
          obtain ⟨rfl, rfl⟩ := List.cons.inj split
          exact next _ b after rfl rfl
        | cons x before => exact inner before a b after (List.cons.inj split).2
      · rintro e _ _ held ⟨⟩
        exact joins e held
    · rintro ⟨evens, inner, joins⟩
      obtain ⟨even, evens⟩ := List.forall_mem_cons.1 evens
      refine ⟨⟨fun e held => joins e r rest held rfl, even⟩, evens, fun before a b after split => ?_, ?_⟩
      · exact inner (r :: before) a b after (by rw [split]; rfl)
      · rintro _ b after ⟨⟩ rfl
        exact inner [] r b after rfl

/-- Settles O51: each row by its own equation, and the edges and periods of a list of runs by induction. -/
theorem captureSteps : Obligations.CaptureSteps := by
  unfold Obligations.CaptureSteps
  intro allTimes final
  refine ⟨?_, fun n runs _ => allEdgeTimes_firstEdges n runs, fun nominal last runs => ?_⟩
  · intro s l j p running job params kind c ended phase reducing period chosen
    have run : RunsJob s l j p := ⟨job, params, kind⟩
    have fails : Host.Outcome.next (acquisitionEnd l .noLock s) = ended :=
      congrArg Host.Outcome.next (run.acquisitionEnd .noLock)
    have reduces (n : Nat) (u : State) : enterReducing l (reductionTicks s j n) u = u.modLane l (reducing n) := by
      rw [reductionTicks_eq]
      rfl
    refine ⟨fun at_work edges time => ?_, fun discarding edges time => ?_, fun capturing due => ?_,
      fun capturing edges since time => ?_⟩
    · intro lost done
      have row : done = .next (lossOfLock l edges time s) := occurs_running running
      have lost_iff : losesLock p edges time = true ↔ lost := losesLock_iff
      rw [run.lossOfLock at_work] at row
      refine ⟨fun h => ?_, fun h => ?_⟩
      · rw [row, if_pos (lost_iff.2 h), fails]
      · rw [row, if_neg fun c => h (lost_iff.1 c)]
    · intro done passing n steady left
      have row : done = .next (discardComplete l edges s) := occurs_running running
      refine ⟨fun breaks => ?_, fun h more => ?_, fun h last => ?_⟩
      · rw [row, run.discardComplete_breaks discarding breaks, fails]
      · have remain : ¬ (s.lane l).run.discard - edgeCount (discardEdges s l p edges) = 0 := Nat.sub_ne_zero_of_lt more
        rw [row, run.discardComplete_steady discarding h, if_neg remain]
        rfl
      · have finished : (s.lane l).run.discard - edgeCount (discardEdges s l p edges) = 0 := Nat.sub_eq_zero_of_le last.ge
        rw [row, run.discardComplete_steady discarding h, if_pos finished]
        exact congrArg Host.Outcome.next (modLane_congr (run.enterCapturing finished))
    · rw [← reduces, ← run.checkCaptureEnd capturing due]
      exact occurs_running running
    · intro done k upTo steady
      have row : done = .next (sampleComplete l edges s) := occurs_running running
      refine ⟨fun breaks => ?_, fun h short => ?_, fun t a b h three => ?_⟩
      · rw [row, run.sampleComplete_breaks capturing breaks, fails]
      · rw [row, run.sampleComplete_short capturing h short]
      · intro first second n held raw took
        rw [run.sampleComplete_takes capturing h three, reduces] at row
        have taken : s.modLane l (takeSample p j.id ⟨t, a - t, b - a⟩) = s.modLane l took :=
          modLane_congr (by rw [takeSample, ringWrite_eq]; rfl)
        refine ⟨fun fewer => ?_, fun enough => ?_⟩
        · rw [row, if_neg (Nat.not_le.2 fewer), taken]
        · rw [row, if_pos enough, taken, modLane_modLane]
  · simp only [unbroken_iff, inTolerance_iff]
    rfl

end Sys2Proof.Machine
end

section
/-!
SUPPORT. What a command can do to the Plan Store: nothing, or one write that its checks have passed (R49 to R57); and what
follows for a protected or referenced plan and for the limit set that it names.
-/
namespace Sys2Proof.Machine

/-! ### Events and requests that leave the store -/

theorem keptByEnds_store (x : PlanStore) : KeptByEnds fun s => s.store = x where
  steady k h := k.store.trans h
  laneEnd l e dest _ h := (keepsRest_laneEnd l e dest _).store.trans h
  giveBack l cause dest _ h := (keepsRest_giveBack l cause dest _).store.trans h
  announce i h := (keepsRest_announce i _).store.trans h
  endChecksOn l h := (keepsRest_endChecksOn l _).store.trans h
  disturbQuad q h := (keepsRest_disturbQuad q _).store.trans h

theorem store_run {l : Lane} {s t : State} (h : RunOutcome l s t) : t.store = s.store :=
  (keptByEnds_store s.store).run h rfl

theorem store_raiseSupplyFault (i : Site) (s : State) : (raiseSupplyFault i s).store = s.store := rfl

theorem store_supplyFaultTrip (i : Site) (s : State) : (supplyFaultTrip i s).store = s.store := by
  simp only [supplyFaultTrip]
  split
  · rw [(keepsRest_announce i _).store, store_raiseSupplyFault, (keepsRest_switchOff i _ _ _).store, store_modSite]
  · rfl

theorem store_lanePairing (s : State) : (lanePairing s).store = s.store := by
  unfold lanePairing
  split <;> rfl

theorem store_drainSite (s : State) (i : Site) : (drainSite s i).store = s.store :=
  (keepsRest_settleExpiry i _).store.trans <| (store_supplyFaultTrip i _).trans <|
    (keepsRest_contactRise i _).store.trans (keepsRest_contactFall i s).store

theorem store_drainLane (s : State) (l : Lane) : (drainLane s l).store = s.store := by
  have h := keptByEnds_store s.store
  have lapse := h.run (runOutcome_lockWindowLapse l _) (h.run (runOutcome_attachEnd l _) (h.calCounterExpiry l rfl))
  exact h.holdExpiry l (h.run (runOutcome_budgetExpiry l _) (h.run (runOutcome_reductionEnd l _)
    (h.run (runOutcome_checkCaptureEnd l _) lapse)))

theorem store_foldl {α : Type} {f : State → α → State} (hf : ∀ s a, (f s a).store = s.store) (as : List α) (s : State) :
    (as.foldl f s).store = s.store :=
  foldl_keeps (fun t => t.store = s.store) f (fun t a h => (hf t a).trans h) as s rfl

/-- What is owed before a tick writes no plan and no limit set (log 5). -/
theorem store_drain (s : State) : (drain s).store = s.store := by
  have quiet (t : State) (l : Lane) : (drainQuiet t l).store = t.store :=
    (keptByEnds_store t.store).quietTimeCalibration l rfl
  have quads (t : State) (q : Quad) : (drainQuad t q).store = t.store := (keptByEnds_store t.store).quietExpiry q rfl
  have link (t : State) : (restartBusyWindowEnd (gapExpiry t)).store = t.store :=
    (keptByEnds_store t.store).restartBusyWindowEnd ((keptByEnds_store t.store).gapExpiry rfl)
  simp only [drain, store_foldl quiet, store_foldl (f := drainPairing) fun t _ => store_lanePairing t, link,
    store_foldl store_drainLane, store_foldl quads, store_foldl store_drainSite]

theorem store_serviceTick (contact flt : BitVec 16) (order : Fin 24) (s : State) :
    (serviceTick contact flt order s).store = s.store := by
  simp [serviceTick, tickAll, sampleLines, store_drain]

theorem store_reqSiteMode (site : Nat) (enable autopower settle : Option Nat) (s : State) :
    (reqSiteMode site enable autopower settle s).2.store = s.store := by
  unfold reqSiteMode
  split
  · exact (keepsRest_applySiteMode _ _ _ _ s).store
  · rfl

theorem store_reqPowerOn (site : Nat) (s : State) : (reqPowerOn site s).2.store = s.store := by
  unfold reqPowerOn
  split
  · rfl
  · split
    case h_1 => exact (keepsRest_claimPower _ s).store
    all_goals rfl

theorem store_reqPowerOff (site : Nat) (s : State) : (reqPowerOff site s).2.store = s.store := by
  unfold reqPowerOff
  split
  · rfl
  · split
    case h_1 | h_2 =>
      dsimp only
      exact (keepsRest_switchOff _ _ _ s).store
    all_goals rfl

theorem store_reqClearSite (site : Nat) (s : State) : (reqClearSite site s).2.store = s.store := by
  simp only [reqClearSite]
  split
  · rfl
  · split
    · exact (keepsRest_enterSite _ _ s).store
    · rfl

theorem store_reqLaneDisable (lane : Nat) (s : State) : (reqLaneDisable lane s).2.store = s.store := by
  unfold reqLaneDisable
  split
  · rfl
  · simp only [laneStateReply]
    split
    · rfl
    · exact (keptByEnds_store s.store).disableLane _ rfl

theorem store_reqMeasure (site plan : Nat) (s : State) : (reqMeasure site plan s).2.store = s.store := by
  unfold reqMeasure
  split
  · simp only
    split
    · rfl
    · exact (keepsRest_appendJobs _ _ s).store
  · rfl

theorem store_enqueueBatch (item : Job → List Byte) (news : List NewJob) (s : State) :
    (enqueueBatch item news s).2.store = s.store := by
  unfold enqueueBatch
  split
  · rfl
  · exact (keepsRest_appendJobs _ _ _).store

theorem store_reqScreen (sites : BitVec 16) (plan : Nat) (s : State) : (reqScreen sites plan s).2.store = s.store := by
  unfold reqScreen
  split
  · rfl
  · split
    · rfl
    · exact store_enqueueBatch _ _ s

theorem store_reqCheckPaths (sites : BitVec 16) (lanes : BitVec 8) (s : State) :
    (reqCheckPaths sites lanes s).2.store = s.store := by
  unfold reqCheckPaths
  split
  · rfl
  · split
    · rfl
    · exact store_enqueueBatch _ _ s

theorem store_reqCancel (selector value : Nat) (s : State) : (reqCancel selector value s).2.store = s.store := by
  unfold reqCancel
  split
  · rfl
  · split
    · rfl
    · exact (keepsRest_foldl _ keepsRest_cancelJob _ s).store

theorem store_reqSnapshot (lanes : BitVec 8) (s : State) : (reqSnapshot lanes s).2.store = s.store := by
  unfold reqSnapshot
  split
  · rfl
  · split
    · rfl
    · refine store_foldl (fun t l => ?_) _ s
      unfold latchLane
      split <;> rfl

/-- The owners that change one lane, one slot or the Link Port leave the store. -/
theorem requests_keep_store (s : State) :
    (∀ n, (reqRecalibrate n s).2.store = s.store) ∧ (∀ n, (reqLaneEnable n s).2.store = s.store)
      ∧ (∀ n, (reqReadSnapshot n s).2.store = s.store) ∧ (∀ n, (reqReleaseLane n s).2.store = s.store)
      ∧ (∀ l n w f, (reqReadSamples l n w f s).2.store = s.store) ∧ (reqNext s).2.store = s.store
      ∧ (reqTakeCompletion s).2.store = s.store ∧ (∀ n, (reqFreeResult n s).2.store = s.store)
      ∧ (∀ x v, (reqSetConfig x v s).2.store = s.store) := by
  refine ⟨fun _ => ?_, fun _ => ?_, fun _ => ?_, fun _ => ?_, fun _ _ _ _ => ?_, ?_, ?_, fun _ => ?_, fun _ _ => ?_⟩
  · unfold reqRecalibrate; repeat' split
    all_goals rfl
  · simp only [reqLaneEnable, laneStateReply]; repeat' split
    all_goals rfl
  · unfold reqReadSnapshot; repeat' split
    all_goals rfl
  · unfold reqReleaseLane; repeat' split
    all_goals rfl
  · unfold reqReadSamples readRing; repeat' split
    all_goals rfl
  · unfold reqNext; repeat' split
    all_goals rfl
  · unfold reqTakeCompletion; repeat' split
    all_goals rfl
  · unfold reqFreeResult; repeat' split
    all_goals rfl
  · unfold reqSetConfig; repeat' split
    all_goals rfl

/-! ### What a command can do to the store -/

/-- The Plan Store after one command: as it was, with one place changed that no job uses and no boundary protects, or with
another boundary (R49 to R57). -/
inductive StoreMoves (s : State) : PlanStore → Prop
  | stands : StoreMoves s s.store
  | plan (p : PlanIx) (r : Option Plan) (unlocked : planProtected s p = false) (unused : planInUse s p = false) :
      StoreMoves s (setPlan p r s).store
  | limits (x : LimitIx) (r : Option (List LimitEntry)) (unlocked : limitsProtected s x = false)
      (unused : limitsInUse s x = false) : StoreMoves s (setLimits x r s).store
  | boundary (b : Nat) : StoreMoves s { s.store with boundary := b }

section
variable {s t u : State} {x : PlanStore}

theorem StoreMoves.of_eq (e : x = s.store) : StoreMoves s x := e ▸ .stands

/-- The moves of the store depend on the store and the job list alone. -/
theorem StoreMoves.same (h : StoreMoves u x) (store : u.store = s.store) (jc : u.jc = s.jc) : StoreMoves s x := by
  have lock (p : PlanIx) : planProtected u p = planProtected s p := by rw [planProtected, planProtected, store]
  have use (p : PlanIx) : planInUse u p = planInUse s p := by rw [planInUse, planInUse, State.jobs, State.jobs, jc]
  have names (x : LimitIx) (p : PlanIx) : namesLimits u x p = namesLimits s x p := by
    simp only [namesLimits, State.plan, store]
  cases h with
  | stands => exact .of_eq store
  | plan p r unlocked unused =>
    rw [setPlan, store_modStore, store]
    exact .plan p r (lock p ▸ unlocked) (use p ▸ unused)
  | limits x r unlocked unused =>
    rw [setLimits, store_modStore, store]
    refine .limits x r ?_ ?_
    · rw [← unlocked, limitsProtected, limitsProtected]
      simp only [lock, names]
    · rw [← unused, limitsInUse, limitsInUse]
      simp only [use, names]
  | boundary b =>
    rw [store]
    exact .boundary b

/-- A protected plan, or one that a listed job references (R49, R50). -/
def PlanHeld (s : State) (p : PlanIx) : Prop := p.val < s.store.boundary ∨ ∃ j ∈ s.jobs, j.work = .measure p

theorem not_planHeld {p : PlanIx} (unlocked : planProtected s p = false) (unused : planInUse s p = false) :
    ¬ PlanHeld s p := by
  rintro (locked | used)
  · rw [planProtected_iff.2 locked] at unlocked; cases unlocked
  · rw [planInUse_iff.2 used] at unused; cases unused

theorem plan_of_store {p : PlanIx} (e : t.store = u.store) : t.plan p = u.plan p := by
  rw [State.plan, State.plan, e]

theorem limitSet_of_store {y : LimitIx} (e : t.store = u.store) : t.limitSet y = u.limitSet y := by
  rw [State.limitSet, State.limitSet, e]

theorem StoreMoves.plan_eq (h : StoreMoves s t.store) {p : PlanIx} (held : PlanHeld s p) : t.plan p = s.plan p := by
  generalize e : t.store = x at h
  cases h with
  | stands => exact plan_of_store e
  | plan q r unlocked unused =>
    have other : p ≠ q := fun same => not_planHeld unlocked unused (same ▸ held)
    rw [plan_of_store e, plan_setPlan, if_neg other]
  | limits y r => exact plan_of_store (u := setLimits y r s) e
  | boundary b => exact plan_of_store (u := s.modStore fun y => { y with boundary := b }) e

/-- A limit set that a held plan names stands (R49, R50). -/
theorem StoreMoves.limitSet_eq (h : StoreMoves s t.store) {p : PlanIx} {r : Plan} {y : LimitIx} (held : PlanHeld s p)
    (defined : s.plan p = some r) (names : r.limitSet = some y.val) : t.limitSet y = s.limitSet y := by
  generalize e : t.store = x at h
  cases h with
  | stands => exact limitSet_of_store e
  | plan q r => exact limitSet_of_store (u := setPlan q r s) e
  | limits z entries unlocked unused =>
    have other : y ≠ z := by
      rintro rfl
      rcases held with locked | used
      · rw [limitsProtected_iff.2 ⟨p, locked, r, defined, names⟩] at unlocked; cases unlocked
      · rw [limitsInUse_iff.2 ⟨p, ⟨r, defined, names⟩, used⟩] at unused; cases unused
    rw [limitSet_of_store e, limitSet_setLimits, if_neg other]
  | boundary b => exact limitSet_of_store (u := s.modStore fun y => { y with boundary := b }) e

/-! ### Requests by their owners -/

theorem storeMoves_reqWritePlan (index : Nat) (plan : Plan) (s : State) :
    StoreMoves s (reqWritePlan index plan s).2.store := by
  unfold reqWritePlan
  repeat' split
  case isFalse unlocked unused => exact .plan _ _ (eq_false_of_ne_true unlocked) (eq_false_of_ne_true unused)
  all_goals exact .stands

theorem storeMoves_reqErasePlan (index : Nat) (s : State) : StoreMoves s (reqErasePlan index s).2.store := by
  unfold reqErasePlan
  repeat' split
  case isFalse unlocked unused => exact .plan _ _ (eq_false_of_ne_true unlocked) (eq_false_of_ne_true unused)
  all_goals exact .stands

theorem storeMoves_reqWriteLimits (index : Nat) (entries : List LimitEntry) (s : State) :
    StoreMoves s (reqWriteLimits index entries s).2.store := by
  unfold reqWriteLimits
  repeat' split
  case isFalse unlocked unused => exact .limits _ _ (eq_false_of_ne_true unlocked) (eq_false_of_ne_true unused)
  all_goals exact .stands

theorem storeMoves_reqEraseLimits (index : Nat) (s : State) : StoreMoves s (reqEraseLimits index s).2.store := by
  unfold reqEraseLimits
  repeat' split
  case isFalse unlocked unused => exact .limits _ _ (eq_false_of_ne_true unlocked) (eq_false_of_ne_true unused)
  all_goals exact .stands

theorem storeMoves_reqProtect (b : Option Nat) (s : State) : StoreMoves s (reqProtect b s).2.store := by
  unfold reqProtect
  split
  · exact .stands
  · split
    · exact .stands
    · split
      · exact .boundary _
      · exact .stands

/-- Every owner makes a move of the store (R179 step 5). -/
theorem storeMoves_handle (i : Instr) (s : State) : StoreMoves s (handle i s).2.store := by
  obtain ⟨queryLane, readPlan, readLimits, readResult, queryPaths, getConfig⟩ := queries_keep s
  obtain ⟨recalibrate, laneEnable, readSnapshot, releaseLane, readSamples, next, takeCompletion, freeResult,
    setConfig⟩ := requests_keep_store s
  have query {t : State} (e : t = s) : StoreMoves s t.store := .of_eq (congrArg State.store e)
  cases i
  case siteMode => exact .of_eq (store_reqSiteMode _ _ _ _ s)
  case powerOn => exact .of_eq (store_reqPowerOn _ s)
  case powerOff => exact .of_eq (store_reqPowerOff _ s)
  case clearSite => exact .of_eq (store_reqClearSite _ s)
  case queryLane n => exact query (queryLane n)
  case recalibrate n => exact .of_eq (recalibrate n)
  case laneModeEnable n => exact .of_eq (laneEnable n)
  case laneModeDisable => exact .of_eq (store_reqLaneDisable _ s)
  case writePlan => exact storeMoves_reqWritePlan _ _ s
  case erasePlan => exact storeMoves_reqErasePlan _ s
  case readPlan n => exact query (readPlan n)
  case writeLimits => exact storeMoves_reqWriteLimits _ _ s
  case eraseLimits => exact storeMoves_reqEraseLimits _ s
  case readLimits n => exact query (readLimits n)
  case protect => exact storeMoves_reqProtect _ s
  case measure => exact .of_eq (store_reqMeasure _ _ s)
  case screen => exact .of_eq (store_reqScreen _ _ s)
  case checkPaths => exact .of_eq (store_reqCheckPaths _ _ s)
  case cancel => exact .of_eq (store_reqCancel _ _ s)
  case snapshot => exact .of_eq (store_reqSnapshot _ s)
  case readSnapshot n => exact .of_eq (readSnapshot n)
  case readSamples => exact .of_eq (readSamples _ _ _ _)
  case nextBlock => exact .of_eq next
  case releaseLane n => exact .of_eq (releaseLane n)
  case takeCompletion => exact .of_eq takeCompletion
  case readResult n => exact query (readResult n)
  case freeResult n => exact .of_eq (freeResult n)
  case queryPaths n => exact query (queryPaths n)
  case setConfig => exact .of_eq (setConfig _ _)
  case getConfig n => exact query (getConfig n)
  all_goals exact .stands

/-! ### The link: one frame takes one request at most (R178) -/

/-- A reply is pending and no frame is being received: every byte is swallowed (R178). -/
def Swallows (s : State) : Prop :=
  s.link.reply.isSome = true ∧ (s.link.receiver = .hunt ∨ ∃ x, s.link.receiver = .swallow x)

/-- A byte or a frame leaves the store and the jobs, or it takes one request and what follows is swallowed. -/
def Receives (s t : State) : Prop :=
  (t.store = s.store ∧ t.jc = s.jc) ∨ (StoreMoves s t.store ∧ Swallows t)

theorem Receives.moves (h : Receives s t) : StoreMoves s t.store := by
  obtain ⟨store, -⟩ | ⟨moves, -⟩ := h
  · exact .of_eq store
  · exact moves

theorem receives_onlyLink (h : OnlyLink s t) : Receives s t := by
  rw [h]
  exact .inl ⟨rfl, rfl⟩

theorem Receives.after (h : Receives u t) (store : u.store = s.store) (jc : u.jc = s.jc) : Receives s t :=
  h.imp (fun ⟨store', jc'⟩ => ⟨store'.trans store, jc'.trans jc⟩) fun ⟨moves, deaf⟩ => ⟨moves.same store jc, deaf⟩

theorem storeMoves_answer (body : List Byte) (s : State) : StoreMoves s (answer body s).2.store := by
  unfold answer
  split
  · exact .stands
  · exact storeMoves_handle _ s

/-- A body is taken: its owner makes a move of the store, and its reply is pending (R179, R180). -/
theorem receives_takeBody (body : List Byte) {act : State → Response × State}
    (ha : ∀ s, StoreMoves s (act s).2.store) (s : State) : Receives s (takeBody body act s) := by
  have ended : OnlyLink s (endFollow body s) := onlyLink_endFollow body s
  have store : (endFollow body s).store = s.store := by rw [ended]
  have jc : (endFollow body s).jc = s.jc := by rw [ended]
  refine .inr ⟨?_, rfl, .inl rfl⟩
  simp only [takeBody, putReply, store_modLink]
  split
  · exact .of_eq store
  · exact (ha _).same store jc

theorem receives_acceptByte (b : Byte) (s : State) : Receives s (acceptByte b s) := by
  unfold acceptByte
  split
  · split
    · split <;> exact receives_onlyLink rfl
    · exact receives_onlyLink rfl
  · exact receives_onlyLink rfl
  · exact receives_onlyLink rfl
  · unfold checkByte
    split
    · exact receives_takeBody _ (storeMoves_answer _) s
    · exact receives_onlyLink rfl
  · exact receives_onlyLink rfl
  · exact receives_onlyLink (onlyLink_swallowByte _ b s)

theorem receives_receiveByte (b : Byte) (setup : Bool) (s : State) : Receives s (receiveByte b setup s) := by
  unfold receiveByte
  split
  · exact (receives_acceptByte b (setSetup setup s)).after rfl rfl
  · exact .inl ⟨rfl, rfl⟩

theorem Swallows.swallowByte (h : s.link.reply.isSome = true) (x : Swallow) (b : Byte) : Swallows (swallowByte x b s) := by
  unfold Machine.swallowByte
  split
  · exact ⟨h, .inr ⟨_, rfl⟩⟩
  · split
    · exact ⟨h, .inl rfl⟩
    · exact ⟨h, .inr ⟨_, rfl⟩⟩
  · exact ⟨h, .inr ⟨_, rfl⟩⟩

theorem Swallows.acceptByte (h : Swallows s) (b : Byte) : Swallows (acceptByte b s) ∧ OnlyLink s (acceptByte b s) := by
  obtain ⟨reply, hunts | ⟨x, swallows⟩⟩ := h
  · simp only [Machine.acceptByte, hunts, reply, if_true]
    split
    · exact ⟨⟨reply, .inr ⟨_, rfl⟩⟩, rfl⟩
    · exact ⟨⟨reply, .inl hunts⟩, rfl⟩
  · simp only [Machine.acceptByte, swallows]
    exact ⟨.swallowByte reply x b, onlyLink_swallowByte x b s⟩

/-- What is swallowed reaches no owner. -/
theorem Swallows.feed (h : Swallows s) (setup : Bool) (bytes : List Byte) :
    Swallows (feed setup bytes s) ∧ (feed setup bytes s).store = s.store := by
  refine foldl_keeps (fun t => Swallows t ∧ t.store = s.store) _ (fun t b ⟨deaf, store⟩ => ?_) bytes s ⟨h, rfl⟩
  unfold receiveByte
  split
  · obtain ⟨deaf', only⟩ := Swallows.acceptByte (s := setSetup setup t) deaf b
    exact ⟨deaf', by rw [only]; exact store⟩
  · exact ⟨deaf, store⟩

theorem receives_feed (setup : Bool) (bytes : List Byte) (s : State) : Receives s (feed setup bytes s) := by
  induction bytes generalizing s with
  | nil => exact .inl ⟨rfl, rfl⟩
  | cons b rest ih =>
    obtain ⟨store, jc⟩ | ⟨moves, deaf⟩ := receives_receiveByte b setup s
    · exact (ih (receiveByte b setup s)).after store jc
    · obtain ⟨deaf', store⟩ := deaf.feed setup rest
      exact .inr ⟨(congrArg (StoreMoves s) store).mpr moves, deaf'⟩

theorem receives_request (setup : Bool) (i : Instr) {act : State → Response × State}
    (ha : ∀ s, StoreMoves s (act s).2.store) (s : State) : Receives s (request setup i act s) := by
  unfold request
  split
  · exact (receives_takeBody _ ha (setSetup setup s)).after rfl rfl
  · exact receives_feed setup _ s

/-! ### Every command -/

theorem storeMoves_taken {setup : Bool} {i : Instr} {act : State → Response × State}
    (ha : ∀ s, StoreMoves s (act s).2.store) (e : taken setup i act s = .next t) : StoreMoves s t.store := by
  cases e
  exact (receives_request setup i ha s).moves

theorem store_issueRestart (s : State) : (issueRestart s).store = s.store := by
  simp [issueRestart, restartSites, raiseAlert]

theorem store_replyComplete (s : State) : (replyComplete s).store = s.store := by
  unfold replyComplete
  split
  · exact store_issueRestart s
  · rfl

theorem store_restartIssue (s : State) : (restartIssue s).store = s.store := by
  unfold restartIssue
  split
  · exact store_issueRestart s
  · rfl

/-- Every command but a reset makes a move of the store. -/
theorem storeMoves_exec (i : Instr) (notAssert : i ≠ .resetAssert) (notEnd : ∀ contact rate, i ≠ .resetEnd contact rate)
    (e : exec i s = .next t) : StoreMoves s t.store := by
  have asked {setup : Bool} (i : Instr) (e : taken setup i (handle i) s = .next t) : StoreMoves s t.store :=
    storeMoves_taken (storeMoves_handle i) e
  have event {f : State → State} (hf : (f s).store = s.store) (e : occurs f s = .next t) : StoreMoves s t.store := by
    cases e
    split
    · exact .of_eq hf
    · exact .stands
  have ends := keptByEnds_store s.store
  cases i
  case badKindRequest => exact storeMoves_taken (fun _ => .stands) e
  case receiveByte b setup => cases e; exact (receives_receiveByte b setup s).moves
  case resetAssert => exact absurd rfl notAssert
  case resetEnd contact rate => exact absurd rfl (notEnd contact rate)
  case gapExpiry => exact event (ends.gapExpiry rfl) e
  case replyComplete => exact event (store_replyComplete s) e
  case restartIssue => exact event (store_restartIssue s) e
  case restartBusyWindowEnd => exact event (ends.restartBusyWindowEnd rfl) e
  case serviceTick => exact event (store_serviceTick _ _ _ s) e
  case contactRise => exact event (keepsRest_contactRise _ s).store e
  case contactFall => exact event (keepsRest_contactFall _ s).store e
  case supplyFaultTrip => exact event (store_supplyFaultTrip _ s) e
  case settleExpiry => exact event (keepsRest_settleExpiry _ s).store e
  case quietExpiry => exact event (ends.quietExpiry _ rfl) e
  case checkIntervalEnd => exact event (ends.checkIntervalEnd _ rfl) e
  case calCounterExpiry => exact event (ends.calCounterExpiry _ rfl) e
  case quietTimeCalibration => exact event (ends.quietTimeCalibration _ rfl) e
  case calibrationComplete => exact event (ends.calibrationComplete _ _ _ rfl) e
  case lanePairing => exact event (store_lanePairing s) e
  case attachEnd => exact event (store_run (runOutcome_attachEnd _ s)) e
  case noSignalWindowEnd => exact event (store_run (runOutcome_noSignalWindowEnd _ _ s)) e
  case coarseFrequencyCheck => exact event (store_run (runOutcome_coarseFrequencyCheck _ _ _ s)) e
  case lockAcquired => exact event (store_run (runOutcome_lockAcquired _ _ _ s)) e
  case lockWindowEnd => exact event (store_run (runOutcome_lockWindowEnd _ _ _ s)) e
  case lossOfLock => exact event (store_run (runOutcome_lossOfLock _ _ _ s)) e
  case discardComplete => exact event (store_run (runOutcome_discardComplete _ _ s)) e
  case sampleComplete => exact event (store_run (runOutcome_sampleComplete _ _ s)) e
  case checkCaptureEnd => exact event (store_run (runOutcome_checkCaptureEnd _ s)) e
  case reductionEnd => exact event (store_run (runOutcome_reductionEnd _ s)) e
  case budgetExpiry => exact event (store_run (runOutcome_budgetExpiry _ s)) e
  case holdExpiry => exact event (ends.holdExpiry _ rfl) e
  all_goals exact asked _ e

theorem storeMoves_step (e : step s = .next t)
    (noReset : ∀ c, s.pending.head? = some c → c ≠ .resetAssert ∧ ∀ contact rate, c ≠ .resetEnd contact rate) :
    StoreMoves s t.store := by
  unfold step at e
  split at e
  · cases e
    exact .stands
  next i rest front =>
    obtain ⟨notAssert, notEnd⟩ := noReset i (by rw [front]; rfl)
    exact (storeMoves_exec i notAssert notEnd e).same rfl rfl

end

/-- Settles O22: a step makes one move of the store at most, which no held plan and no limit set of a held plan can be the
place of. -/
theorem protectedAndUsedPlansStay : Obligations.ProtectedAndUsedPlansStay := by
  unfold Obligations.ProtectedAndUsedPlansStay
  intro s t e noReset kept
  have moves := storeMoves_step e noReset
  exact ⟨fun p held => moves.plan_eq held,
    fun x ⟨_, _, held, defined, names⟩ => moves.limitSet_eq held defined names⟩

end Sys2Proof.Machine
end

section
/-!
SUPPORT. What the Job Controller searches for, an id and a slot, and what its requests answer: the checks of an enqueue in
their order, CANCEL, PAUSE and RESUME (R61 to R66, R77, R79, R125).
-/
namespace Sys2Proof.Machine

/-! ### Identifiers (R62) -/

/-- The search stops at the first value that is not in use, or at the end of its fuel. -/
theorem nextIdFrom_first {used : List Nat} {fuel last : Nat} (fresh : nextIdFrom used fuel last ∉ used) :
    ∃ k ≤ fuel, nextIdFrom used fuel last = (last + k) % 255 + 1 ∧ ∀ m < k, (last + m) % 255 + 1 ∈ used := by
  induction fuel generalizing last with
  | zero => exact ⟨0, le_rfl, rfl, fun m hm => absurd hm m.not_lt_zero⟩
  | succ fuel ih =>
    by_cases here : last % 255 + 1 ∈ used
    · have next : nextIdFrom used (fuel + 1) last = nextIdFrom used fuel (last % 255 + 1) := by
        simp [nextIdFrom, here]
      have shift (k : Nat) : (last % 255 + 1 + k) % 255 + 1 = (last + (k + 1)) % 255 + 1 := by omega
      rw [next] at fresh ⊢
      obtain ⟨k, hk, found, tried⟩ := ih fresh
      refine ⟨k + 1, by omega, by rw [found, shift], fun m hm => ?_⟩
      cases m with
      | zero => exact here
      | succ m => exact shift m ▸ tried m (by omega)
    · exact ⟨0, Nat.zero_le _, by simp [nextIdFrom, here], fun m hm => absurd hm m.not_lt_zero⟩

/-- With fewer than 255 ids in use, the next id is the first of the 255 values after the last one that is not in use. -/
theorem nextId_first {used : List Nat} (room : used.length < 255) (last : Nat) :
    nextId last used ∉ used
      ∧ ∃ k < 255, nextId last used = (last + k) % 255 + 1 ∧ ∀ m < k, (last + m) % 255 + 1 ∈ used := by
  have fresh := nextId_not_mem room last
  obtain ⟨k, hk, found, tried⟩ := nextIdFrom_first fresh
  refine ⟨fresh, k, lt_of_le_of_ne hk fun full => fresh ?_, found, tried⟩
  have wraps : nextId last used = (last + 0) % 255 + 1 := found.trans (by omega)
  exact wraps ▸ tried 0 (by omega)

theorem nextJobId_first {s : State} (room : s.jobs.length < 255) :
    (∀ j ∈ s.jobs, j.id ≠ nextJobId s)
      ∧ ∃ k < 255, nextJobId s = (s.jc.lastJobId + k) % 255 + 1
        ∧ ∀ m < k, ∃ j ∈ s.jobs, j.id = (s.jc.lastJobId + m) % 255 + 1 := by
  obtain ⟨fresh, k, hk, found, tried⟩ := nextId_first (used := s.jobs.map (·.id)) (by simpa using room) s.jc.lastJobId
  exact ⟨fun j hj e => fresh (List.mem_map.2 ⟨j, hj, e⟩), k, hk, found, fun m hm => List.mem_map.1 (tried m hm)⟩

theorem nextBatchId_first {s : State} (room : s.jobs.length < 255) :
    (∀ j ∈ s.jobs, j.batch ≠ some (nextBatchId s))
      ∧ ∃ k < 255, nextBatchId s = (s.jc.lastBatchId + k) % 255 + 1
        ∧ ∀ m < k, ∃ j ∈ s.jobs, j.batch = some ((s.jc.lastBatchId + m) % 255 + 1) := by
  obtain ⟨fresh, k, hk, found, tried⟩ := nextId_first (used := s.jobs.filterMap (·.batch))
    ((List.length_filterMap_le _ _).trans_lt room) s.jc.lastBatchId
  exact ⟨fun j hj e => fresh (List.mem_filterMap.2 ⟨j, hj, e⟩), k, hk, found,
    fun m hm => List.mem_filterMap.1 (tried m hm)⟩

/-! ### Slots and room (R61, R125) -/

theorem isFree_iff {x : Slot} : x.isFree = true ↔ x = .free := by
  cases x <;> simp [Slot.isFree]

theorem lowestFree_eq_some {s : State} {h : Handle} (free : s.slot h = .free) (lowest : ∀ g < h, s.slot g ≠ .free) :
    lowestFree s = some h := by
  refine List.find?_eq_some_iff_getElem.2 ⟨isFree_iff.2 free, h.val, by simp [allHandles], by simp [allHandles],
    fun k hk => ?_⟩
  simp only [allHandles, List.getElem_finRange, Bool.not_eq_true', Bool.eq_false_iff, ne_eq, isFree_iff]
  exact lowest _ hk

theorem hasRoom_iff {s : State} {n : Nat} : hasRoom s n = true ↔
    s.jobs.length + n ≤ 32 ∧ n ≤ allHandles.countP fun h => decide (s.slot h = .free) := by
  have free (h : Handle) : (s.slot h).isFree = decide (s.slot h = .free) :=
    Bool.eq_iff_iff.2 (isFree_iff.trans decide_eq_true_iff.symm)
  simp only [hasRoom, freeSlots, free, Bool.and_eq_true, decide_eq_true_eq]
  rfl

theorem hasRoom_one_iff {s : State} : hasRoom s 1 = true ↔ s.jobs.length < 32 ∧ lowestFree s ≠ none := by
  have one : 1 ≤ freeSlots s ↔ lowestFree s ≠ none := by
    rw [lowestFree, ← Option.isSome_iff_ne_none, List.find?_isSome]
    exact List.countP_pos_iff
  simp only [hasRoom, Bool.and_eq_true, decide_eq_true_eq, one]
  rfl

/-- Settles O25: `nextId_first` finds the id among at most 31 listed ones. -/
theorem appendedJobTakesNextIdAndSlot : Obligations.AppendedJobTakesNextIdAndSlot := by
  unfold Obligations.AppendedJobTakesNextIdAndSlot
  intro s batch n h room _ free lowest
  obtain ⟨fresh, k, hk, found, tried⟩ := nextJobId_first (s := s) (by omega)
  exact ⟨nextJobId s, k, found, hk, fresh, tried, appendJob_of_free (lowestFree_eq_some free lowest)⟩

/-! ### The checks of an enqueue (R63) -/

theorem planRefuses_iff {s : State} {n : NewJob} :
    planRefuses s n = true ↔ ∃ p, n.work = .measure p ∧ s.plan p = none := by
  unfold planRefuses
  split
  · next p e => simp [e]
  · next l e => simp [e]

theorem stateRefuses_iff {s : State} {n : NewJob} : stateRefuses s n = true ↔
    (s.site n.site).state = .fault
      ∨ ((s.site n.site).state = .disabled ∨ (s.site n.site).state = .vacant) ∧ ∃ p, n.work = .measure p := by
  cases work : n.work <;> cases state : (s.site n.site).state <;> simp [stateRefuses, work, state]

theorem conflicts_iff {n : NewJob} {j : Job} : conflicts n j = true ↔
    j.site = n.site ∧ ∀ a b, n.work = .check a → j.work = .check b → a = b := by
  rw [conflicts, Bool.and_eq_true, beq_iff_eq]
  refine and_congr_right fun _ => ?_
  split
  · next e => simp [e]
  · next e => simp [e]
  · next a b ea eb => simp [ea, eb]

theorem listRefuses_iff {s : State} {n : NewJob} : listRefuses s n = true ↔
    ∃ j ∈ s.jobs, j.site = n.site ∧ ∀ a b, n.work = .check a → j.work = .check b → a = b := by
  simp only [listRefuses, List.any_eq_true, conflicts_iff]

theorem pathUsable_iff {s : State} {i : Site} {l : Lane} : pathUsable s i l = true ↔
    (s.path i l).rating ≠ .bad ∧ (s.link.settings.requireChecked = true → (s.path i l).rating ≠ .unchecked) := by
  cases rating : (s.path i l).rating <;> simp [pathUsable, usable, State.settings, rating]

theorem hasUsablePath_eq_false {s : State} {i : Site} : hasUsablePath s i = false ↔
    ∀ l, (s.path i l).rating = .bad
      ∨ (s.link.settings.requireChecked = true ∧ (s.path i l).rating = .unchecked) := by
  have each (l : Lane) : ¬ pathUsable s i l = true ↔ (s.path i l).rating = .bad
      ∨ (s.link.settings.requireChecked = true ∧ (s.path i l).rating = .unchecked) := by
    rw [pathUsable_iff]
    tauto
  simp only [hasUsablePath, List.any_eq_false, each]
  exact ⟨fun h l => h l (List.mem_finRange l), fun h l _ => h l⟩

theorem pathRefuses_iff {s : State} {n : NewJob} : pathRefuses s n = true ↔
    match n.work with
    | .measure _ => ∀ l, (s.path n.site l).rating = .bad
        ∨ (s.link.settings.requireChecked = true ∧ (s.path n.site l).rating = .unchecked)
    | .check l => (s.lane l).state = .disabled := by
  unfold pathRefuses
  cases n.work with
  | measure p => exact (Bool.not_eq_true' _).to_iff.trans hasUsablePath_eq_false
  | check l => exact beq_iff_eq

section
variable {q : NewJob → Bool} {fails : NewJob → Prop} {news : List NewJob}

theorem find?_pass (h : ∀ n, q n = true ↔ fails n) (pass : ∀ m ∈ news, ¬ fails m) : news.find? q = none :=
  List.find?_eq_none.2 fun m hm => mt (h m).1 (pass m hm)

theorem find?_first (h : ∀ n, q n = true ↔ fails n) {n : NewJob}
    (first : ∃ before after, news = before ++ n :: after ∧ (∀ m ∈ before, ¬ fails m) ∧ fails n) :
    n ∈ news ∧ news.find? q = some n := by
  obtain ⟨before, after, rfl, pass, fail⟩ := first
  rw [List.find?_append, find?_pass h pass, List.find?_cons_of_pos ((h n).2 fail)]
  exact ⟨by simp, rfl⟩

end

section
variable {s : State} {news : List NewJob} {n : NewJob}

/-- The first check that fails, and the first job that fails it (R63). -/
theorem enqueueRefusal_noSuch (fails : news.find? (planRefuses s) = some n) :
    enqueueRefusal s news = some (.noSuch, n) := by
  simp [enqueueRefusal, fails]

theorem enqueueRefusal_state (plans : news.find? (planRefuses s) = none) (fails : news.find? (stateRefuses s) = some n) :
    enqueueRefusal s news = some (.state, n) := by
  simp [enqueueRefusal, plans, fails]

theorem enqueueRefusal_inUse (plans : news.find? (planRefuses s) = none) (states : news.find? (stateRefuses s) = none)
    (fails : news.find? (listRefuses s) = some n) : enqueueRefusal s news = some (.inUse, n) := by
  simp [enqueueRefusal, plans, states, fails]

theorem enqueueRefusal_path (plans : news.find? (planRefuses s) = none) (states : news.find? (stateRefuses s) = none)
    (entries : news.find? (listRefuses s) = none) :
    enqueueRefusal s news = (news.find? (pathRefuses s)).map fun n => (.noPath, n) := by
  simp [enqueueRefusal, plans, states, entries]

theorem enqueueCheck_refused {x : Status} (h : enqueueRefusal s news = some (x, n)) :
    enqueueCheck s news = some ⟨x, .single (refusedPlace n)⟩ := by
  simp [enqueueCheck, h]

theorem enqueueCheck_full (h : enqueueRefusal s news = none) (full : ¬ hasRoom s news.length = true) :
    enqueueCheck s news = some (refuse .full) := by
  simp [enqueueCheck, h, full]

theorem enqueueCheck_passes (h : enqueueRefusal s news = none) (room : hasRoom s news.length = true) :
    enqueueCheck s news = none := by
  simp [enqueueCheck, h, room]

end

/-! ### MEASURE (R64) -/

section
variable {s : State} {site plan : Nat} {i : Site} {p : PlanIx}

theorem reqMeasure_bad (h : 16 ≤ site ∨ 24 ≤ plan) : reqMeasure site plan s = (refuse .badField, s) := by
  rcases h with h | h
  · rw [reqMeasure, siteOf?_none h]
  · rw [reqMeasure, planOf?_none h]
    cases siteOf? site <;> rfl

theorem reqMeasure_refused {r : Response} (h : enqueueCheck s [⟨.measure p, i⟩] = some r) :
    reqMeasure i.val p.val s = (r, s) := by
  simp [reqMeasure, siteOf?_val, planOf?_val, h]

theorem reqMeasure_passes (h : enqueueCheck s [⟨.measure p, i⟩] = none) {k : Handle} (free : lowestFree s = some k) :
    reqMeasure i.val p.val s = (okWith (be8 (nextJobId s) ++ be8 k.val), appendJob none s ⟨.measure p, i⟩) := by
  have one : appended s (appendJob none s ⟨.measure p, i⟩) = [newEntry none s ⟨.measure p, i⟩ k] := by
    rw [appended, appendJob_of_free free]
    exact List.drop_left
  simp only [reqMeasure, siteOf?_val, planOf?_val, h, appendJobs, List.foldl_cons, List.foldl_nil, one]
  simp [newEntry]

end

/-- Settles O24: the four checks on the one job, and then the room for it. -/
theorem measureEnqueues : Obligations.MeasureEnqueues := by
  unfold Obligations.MeasureEnqueues
  intro s tag site plan ht
  refine ⟨fun bad => request_answers ht (reqMeasure_bad bad), ?_⟩
  rintro i p rfl rfl away listed room
  let n : NewJob := ⟨.measure p, i⟩
  let u := setFollow none s
  have noPlan : planRefuses u n = true ↔ s.plan p = none := by
    simp only [planRefuses_iff, n, Work.measure.injEq, exists_eq_left']
    rfl
  have badState : stateRefuses u n = true ↔ away := by
    simp only [stateRefuses_iff, n, away, Work.measure.injEq, exists_eq', and_true]
    exact or_comm.trans or_assoc
  have conflict : listRefuses u n = true ↔ listed := by
    simp only [listRefuses_iff, n, listed, reduceCtorEq, false_implies, implies_true, and_true]
    rfl
  have noPath : pathRefuses u n = true ↔ hasUsablePath s i = false := (Bool.not_eq_true' _).to_iff
  have pass {q : NewJob → Bool} (h : ¬ q n = true) : [n].find? q = none := by simp [h]
  have refused {x : Status} (h : enqueueRefusal u [n] = some (x, n)) (hx : x ≠ .badKind) :
      exec (.measure tag i.val p.val) s = .next (answered 0xA0 tag x (be8 i.val) s) :=
    request_answers ht (reqMeasure_refused (enqueueCheck_refused h)) hx
  have taken (planned : s.plan p ≠ none) (here : ¬ away) (alone : ¬ listed) (path : hasUsablePath s i = true) :
      enqueueRefusal u [n] = none := by
    rw [enqueueRefusal_path (pass (mt noPlan.1 planned)) (pass (mt badState.1 here)) (pass (mt conflict.1 alone)),
      pass (by rw [noPath, path]; decide), Option.map_none]
  refine ⟨fun empty => ?_, fun planned gone => ?_, fun planned here found => ?_, fun planned here alone unusable => ?_,
    fun planned here alone path full => ?_, fun planned here alone path few k free => ?_⟩
  · exact refused (enqueueRefusal_noSuch (by simp [noPlan, empty])) (by decide)
  · exact refused (enqueueRefusal_state (pass (mt noPlan.1 planned)) (by simp [badState, gone])) (by decide)
  · exact refused (enqueueRefusal_inUse (pass (mt noPlan.1 planned)) (pass (mt badState.1 here))
      (by simp [conflict, found])) (by decide)
  · refine refused ?_ (by decide)
    rw [enqueueRefusal_path (pass (mt noPlan.1 planned)) (pass (mt badState.1 here)) (pass (mt conflict.1 alone))]
    simp [noPath, unusable]
  · exact request_answers ht (reqMeasure_refused (enqueueCheck_full (taken planned here alone path)
      (mt hasRoom_one_iff.1 full)))
  · have room : hasRoom u 1 = true := hasRoom_one_iff.2 ⟨few, by rw [show lowestFree u = some k from free]; simp⟩
    refine request_answers ht ((reqMeasure_passes (enqueueCheck_passes (taken planned here alone path) room) free).trans ?_)
    rw [appendJob_of_free (show lowestFree u = some k from free)]
    rfl

/-! ### SCREEN and CHECK PATHS (R65, R66) -/

section
variable {s : State} {news : List NewJob} {item : Job → List Byte}

theorem enqueueBatch_refused {r : Response} (h : enqueueCheck s news = some r) :
    enqueueBatch item news s = (r, s) := by
  simp [enqueueBatch, h]

theorem enqueueBatch_passes (h : enqueueCheck s news = none) {t : State}
    (e : t = appendJobs (some (nextBatchId s)) news (setBatch (nextBatchId s) s)) : enqueueBatch item news s =
      (okWith (be8 (nextBatchId s) ++ be8 news.length ++ (t.jobs.drop s.jobs.length).flatMap item), t) := by
  simp [enqueueBatch, h, e, appended]

theorem reqScreen_bad {sites : BitVec 16} {plan : Nat} (h : sites = 0 ∨ 24 ≤ plan) :
    reqScreen sites plan s = (refuse .badField, s) := by
  rcases h with h | h
  · unfold reqScreen
    split
    · rfl
    · exact if_pos h
  · rw [reqScreen, planOf?_none h]

theorem reqScreen_val {sites : BitVec 16} (some_site : sites ≠ 0) (p : PlanIx) : reqScreen sites p.val s =
    enqueueBatch screenItem ((sitesIn sites).map fun i => ⟨.measure p, i⟩) s := by
  simp only [reqScreen, planOf?_val, if_neg some_site]

theorem reqCheckPaths_bad {sites : BitVec 16} {lanes : BitVec 8} (h : sites = 0 ∨ lanes = 0 ∨ 16 ≤ lanes.toNat) :
    reqCheckPaths sites lanes s = (refuse .badField, s) := by
  unfold reqCheckPaths
  split
  · rfl
  · next ls e =>
    have low : lanes.toNat < 16 := by
      by_contra high
      simp [lanesIn?, high] at e
    exact if_pos (h.imp_right fun h => h.resolve_right (by omega))

theorem reqCheckPaths_val {sites : BitVec 16} {lanes : BitVec 8} (some_site : sites ≠ 0) (some_lane : lanes ≠ 0)
    (low : lanes.toNat < 16) : reqCheckPaths sites lanes s = enqueueBatch checkItem
      (checkJobs (sitesIn sites) (allLanes.filter fun l => lanes.getLsbD l.val)) s := by
  simp only [reqCheckPaths, lanesIn?, if_pos low, if_neg (not_or.2 ⟨some_site, some_lane⟩)]

end

/-- Settles O26: both rows are one `enqueueBatch`, over their own jobs and with their own items. -/
theorem batchesEnqueueWhole : Obligations.BatchesEnqueueWhole := by
  unfold Obligations.BatchesEnqueueWhole
  intro s tag ht noPlan badState conflict noPath enqueues sites plan lanes chosen
  have batch {c : Instr} {kind : Byte} {place : NewJob → List Byte} {item : Job → List Byte} {news : List NewJob}
      (answers : ∀ {x data t}, enqueueBatch item news (setFollow none s) = (⟨x, data⟩, t) → x ≠ .badKind →
        exec c s = .next (replied kind tag x data t))
      (places : ∀ n ∈ news, refusedPlace n = place n) : enqueues c kind place item news := by
    let u := setFollow none s
    have hPlan (n : NewJob) : planRefuses u n = true ↔ noPlan n := planRefuses_iff
    have hState (n : NewJob) : stateRefuses u n = true ↔ badState n := stateRefuses_iff
    have hList (n : NewJob) : listRefuses u n = true ↔ conflict n := listRefuses_iff
    have hPath (n : NewJob) : pathRefuses u n = true ↔ noPath n := pathRefuses_iff
    have refuses {x : Status} {n : NewJob} (mem : n ∈ news) (h : enqueueRefusal u news = some (x, n))
        (hx : x ≠ .badKind) : exec c s = .next (answered kind tag x (place n) s) :=
      places n mem ▸ answers (enqueueBatch_refused (enqueueCheck_refused h)) hx
    refine ⟨fun n f => ?_, fun n plans f => ?_, fun n pass f => ?_, fun n pass f => ?_, fun pass => ?_⟩
    · obtain ⟨mem, f⟩ := find?_first hPlan f
      exact refuses mem (enqueueRefusal_noSuch f) (by decide)
    · obtain ⟨mem, f⟩ := find?_first hState f
      exact refuses mem (enqueueRefusal_state (find?_pass hPlan plans) f) (by decide)
    · obtain ⟨mem, f⟩ := find?_first hList f
      obtain ⟨plans, states⟩ := forall₂_and.1 pass
      exact refuses mem (enqueueRefusal_inUse (find?_pass hPlan plans) (find?_pass hState states) f) (by decide)
    · obtain ⟨mem, f⟩ := find?_first hPath f
      simp only [forall₂_and] at pass
      obtain ⟨plans, states, entries⟩ := pass
      refine refuses mem ?_ (by decide)
      rw [enqueueRefusal_path (find?_pass hPlan plans) (find?_pass hState states) (find?_pass hList entries), f,
        Option.map_some]
    · simp only [forall₂_and] at pass
      obtain ⟨plans, states, entries, paths⟩ := pass
      have taken : enqueueRefusal u news = none := by
        rw [enqueueRefusal_path (find?_pass hPlan plans) (find?_pass hState states) (find?_pass hList entries),
          find?_pass hPath paths, Option.map_none]
      refine ⟨fun full => answers (enqueueBatch_refused (enqueueCheck_full taken (mt hasRoom_iff.1 full))) (by decide),
        fun fits => ?_⟩
      have few : u.jobs.length ≤ 32 := Nat.le_of_add_right_le fits.1
      obtain ⟨fresh, k, hk, next, tried⟩ := nextBatchId_first (s := u) (few.trans_lt (by decide))
      exact ⟨nextBatchId u, k, next, hk, fresh, tried,
        answers (enqueueBatch_passes (enqueueCheck_passes taken (hasRoom_iff.2 fits)) rfl) (by decide)⟩
  refine ⟨fun bad => request_answers ht (reqScreen_bad bad), fun bad => request_answers ht (reqCheckPaths_bad bad), ?_, ?_⟩
  · rintro p rfl some_site
    refine batch (fun ha hx => request_answers ht ((reqScreen_val some_site p).trans ha) hx) fun n hn => ?_
    obtain ⟨i, -, rfl⟩ := List.mem_map.1 hn
    rfl
  · intro some_site some_lane low
    refine batch (fun ha hx => request_answers ht ((reqCheckPaths_val some_site some_lane low).trans ha) hx)
      fun n hn => ?_
    obtain ⟨i, -, hn⟩ := List.mem_flatMap.1 hn
    obtain ⟨l, -, rfl⟩ := List.mem_map.1 hn
    rfl

/-! ### CANCEL (R77) -/

/-- The selectors that R77 gives a meaning. -/
def SelectorInRange (selector value : Nat) : Prop :=
  (selector = 1 ∧ 1 ≤ value ∧ value ≤ 255) ∨ (selector = 2 ∧ value ≤ 15) ∨ (selector = 3 ∧ 1 ≤ value ∧ value ≤ 255)

/-- What a selector in range selects: the job of an id, the jobs of a site, or those of a batch. -/
def selectedBy (selector value : Nat) (j : Job) : Bool :=
  if selector = 1 then j.id == value else if selector = 2 then j.site.val == value else j.batch == some value

theorem selectorOf?_eq_none {selector value : Nat} (h : ¬ SelectorInRange selector value) :
    selectorOf? selector value = none := by
  unfold selectorOf?
  split
  · exact if_neg fun ok => h (.inl ⟨rfl, ok⟩)
  · rw [siteOf?_none (by_contra fun low => h (.inr (.inl ⟨rfl, by omega⟩))), Option.map_none]
  · exact if_neg fun ok => h (.inr (.inr ⟨rfl, ok⟩))
  · rfl

theorem selectorOf?_inRange {selector value : Nat} (h : SelectorInRange selector value) :
    ∃ x, selectorOf? selector value = some x ∧ x.selects = selectedBy selector value := by
  obtain ⟨rfl, ok⟩ | ⟨rfl, ok⟩ | ⟨rfl, ok⟩ := h
  · exact ⟨.job value, if_pos ok, rfl⟩
  · refine ⟨.site ⟨value, by omega⟩, by simp [selectorOf?, siteOf?, Nat.lt_succ_of_le ok], funext fun j => ?_⟩
    rw [Bool.eq_iff_iff]
    simp [Selector.selects, selectedBy, Fin.ext_iff]
  · exact ⟨.batch value, if_pos ok, rfl⟩

section
variable {s : State} {selector value : Nat}

theorem reqCancel_bad (h : ¬ SelectorInRange selector value) : reqCancel selector value s = (refuse .badField, s) := by
  simp [reqCancel, selectorOf?_eq_none h]

theorem reqCancel_noSuch (h : SelectorInRange selector value) (nobody : s.jobs.filter (selectedBy selector value) = []) :
    reqCancel selector value s = (refuse .noSuch, s) := by
  obtain ⟨x, found, selects⟩ := selectorOf?_inRange h
  simp [reqCancel, found, selects, nobody]

theorem reqCancel_ends (h : SelectorInRange selector value) (somebody : s.jobs.filter (selectedBy selector value) ≠ []) :
    reqCancel selector value s =
      (okWith (be8 (s.jobs.filter (selectedBy selector value)).length
        ++ be8 ((s.jobs.filter (selectedBy selector value)).countP fun j => j.running.isSome)),
      (s.jobs.filter (selectedBy selector value)).foldl cancelJob s) := by
  obtain ⟨x, found, selects⟩ := selectorOf?_inRange h
  obtain ⟨j, rest, chosen⟩ := List.exists_cons_of_ne_nil somebody
  have running (j : Job) : (!j.queued) = j.running.isSome := by simp [Job.queued]
  simp only [reqCancel, found, selects, chosen, running]

end

/-- Settles O27: the selector decides whether any job is chosen, and `cancelJob` is the end of one chosen job. -/
theorem cancelEndsSelected : Obligations.CancelEndsSelected := by
  unfold Obligations.CancelEndsSelected
  intro s tag selector value ht
  exact ⟨fun bad => request_answers ht (reqCancel_bad bad),
    fun ok nobody => request_answers ht (reqCancel_noSuch (s := setFollow none s) ok nobody),
    fun ok somebody => request_answers ht (reqCancel_ends (s := setFollow none s) ok somebody)⟩

/-! ### PAUSE and RESUME (R68, R79) -/

/-- No job may start on any lane while the pause flag is set (R68). -/
theorem mayStart_of_paused {s : State} (h : s.jc.paused = true) (j : Job) (l : Lane) : mayStart s j l = false := by
  simp [mayStart, laneEligible, h]

/-- Settles O28: the owner's answer, and `mayStart_of_paused` for every pair. -/
theorem pauseHoldsPairings : Obligations.PauseHoldsPairings := by
  unfold Obligations.PauseHoldsPairings
  intro s tag
  refine ⟨fun ht => ⟨request_answers ht rfl, request_answers ht rfl⟩, fun paused => ?_⟩
  have idle : lanePairing s = s := lanePairing_of_not fun j _ l => mayStart_of_paused paused j l
  show occurs lanePairing s = .next s
  cases running : s.pins.resetn with
  | false => exact occurs_held running
  | true => rw [occurs_running running, idle]

end Sys2Proof.Machine
end

section
/-!
SUPPORT. The arbiter: which jobs may start on which lane, the lane of the lowest TIE floor, and the earliest job that has one
(R67 to R71).
-/
namespace Sys2Proof.Machine

/-! ### Eligibility (R67, R68) -/

theorem quadPending_eq_false {s : State} {q : Quad} :
    quadPending s q = false ↔ ∀ k, quadOf k = q → (s.site k).state ≠ .powerPending := by
  rw [Bool.eq_false_iff, ne_eq, quadPending_iff]
  push Not
  rfl

theorem startState_measure {x : SiteState} : startState .measure x = true ↔ x = .ready := by
  cases x <;> simp [startState]

theorem startState_check {x : SiteState} : startState .check x = true ↔ x = .vacant ∨ x = .seated ∨ x = .disabled := by
  cases x <;> simp [startState]

theorem siteEligible_iff {s : State} {k : JobKind} {i : Site} : siteEligible s k i = true ↔
    startState k (s.site i).state = true ∧ (s.site i).attachedLane = none ∧ (s.quietOf (quadOf i)).left = 0
      ∧ ∀ m, quadOf m = quadOf i → (s.site m).state ≠ .powerPending := by
  simp only [siteEligible, Bool.and_eq_true, Option.isNone_iff_eq_none, beq_iff_eq, Bool.not_eq_true',
    quadPending_eq_false, and_assoc]

/-- The lane's path serves the job: a usable one for a MEASURE job, the target lane's for a CHECK job (R68). -/
def lanePathFits (s : State) (j : Job) (l : Lane) : Prop :=
  match j.work with
  | .measure _ => pathUsable s j.site l = true
  | .check t => t = l

theorem laneEligible_iff {s : State} {j : Job} {l : Lane} : laneEligible s j l = true ↔
    (s.lane l).state = .idle ∧ (s.lane l).hold = false ∧ s.jc.paused = false ∧ s.ref.state = .locked
      ∧ lanePathFits s j l ∧ ((s.lane l).owed = 2 → jobBudget s j.work < (s.lane l).calCounter.left) := by
  have quiet : ((s.lane l).owed != 2 || decide (jobBudget s j.work < (s.lane l).calCounter.left)) = true ↔
      ((s.lane l).owed = 2 → jobBudget s j.work < (s.lane l).calCounter.left) := by
    rw [Bool.or_eq_true, bne_iff_ne, decide_eq_true_iff]
    exact Decidable.imp_iff_not_or.symm
  simp only [laneEligible, laneFree, lanePathFits, Bool.and_eq_true, Bool.not_eq_true', beq_iff_eq, quiet, and_assoc]
  cases j.work with
  | measure p => rfl
  | check t => simp only [beq_iff_eq]

theorem mayStart_iff {s : State} {j : Job} {l : Lane} : mayStart s j l = true ↔
    j.running = none ∧ siteEligible s j.work.kind j.site = true ∧ laneEligible s j l = true := by
  simp only [mayStart, Job.queued, Bool.and_eq_true, Option.isNone_iff_eq_none, and_assoc]

/-! ### Choosing (R70) -/

/-- The lane comes before another for a site: it has the lower TIE floor, an absent floor last, or is the lower of equals. -/
def lanePrecedes (s : State) (i : Site) (l m : Lane) : Prop :=
  match (s.path i l).floors.tie, (s.path i m).floors.tie with
  | some x, some y => x < y ∨ (x = y ∧ l ≤ m)
  | some _, none => True
  | none, some _ => False
  | none, none => l ≤ m

theorem lanePrecedes_iff {s : State} {i : Site} {l m : Lane} : lanePrecedes s i l m ↔
    rankBelow (pathRank (s.path i m)) (pathRank (s.path i l)) = false
      ∧ (rankBelow (pathRank (s.path i l)) (pathRank (s.path i m)) = true ∨ l ≤ m) := by
  unfold lanePrecedes rankBelow pathRank
  cases x : (s.path i l).floors.tie with
  | none => cases y : (s.path i m).floors.tie <;> simp
  | some a =>
    cases y : (s.path i m).floors.tie with
    | none => simp
    | some b =>
      simp only [lt_self_iff_false, decide_false, beq_self_eq_true, Bool.true_and, Bool.false_or, decide_eq_false_iff_not,
        decide_eq_true_eq, not_lt]
      rw [or_and_left, ← le_iff_lt_or_eq]

section
variable {s : State} {i : Site} {l : Lane}

/-- A lane that precedes the best so far replaces it, where it comes later in the order of lanes. -/
theorem betterLane_replaces {m : Lane} (h : lanePrecedes s i l m) (later : m < l) :
    betterLane s i (some m) l = some l :=
  if_pos ((lanePrecedes_iff.1 h).2.resolve_right (not_le.2 later))

/-- A best lane stays so beside a lane that it precedes. -/
theorem betterLane_stays {m : Lane} (h : lanePrecedes s i l m) : betterLane s i (some l) m = some l :=
  if_neg (Bool.eq_false_iff.1 (lanePrecedes_iff.1 h).1)

theorem foldl_betterLane_stays {lanes : List Lane} (first : ∀ m ∈ lanes, lanePrecedes s i l m) :
    lanes.foldl (betterLane s i) (some l) = some l := by
  induction lanes with
  | nil => rfl
  | cons m rest ih =>
    rw [List.foldl_cons, betterLane_stays (first m (by simp))]
    exact ih fun k hk => first k (List.mem_cons_of_mem m hk)

/-- The best of some lanes is one of them. -/
theorem foldl_betterLane_mem {lanes : List Lane} {best : Option Lane} {m : Lane}
    (h : lanes.foldl (betterLane s i) best = some m) : m ∈ lanes ∨ best = some m := by
  induction lanes generalizing best with
  | nil => exact .inr h
  | cons k rest ih =>
    rcases ih h with mem | now
    · exact .inl (List.mem_cons_of_mem k mem)
    · unfold betterLane at now
      split at now
      · exact .inl (by simp [Option.some.inj now])
      · split at now
        · exact .inl (by simp [Option.some.inj now])
        · exact .inr now

/-- Of lanes in ascending order, the one that precedes them all is the best. -/
theorem foldl_betterLane_eq {lanes : List Lane} (ascending : lanes.Pairwise (· < ·)) (mem : l ∈ lanes)
    (first : ∀ m ∈ lanes, lanePrecedes s i l m) : lanes.foldl (betterLane s i) none = some l := by
  obtain ⟨before, after, rfl⟩ := List.append_of_mem mem
  have earlier : ∀ m ∈ before, m < l := fun m hm => (List.pairwise_append.1 ascending).2.2 m hm l (by simp)
  have taken : betterLane s i (before.foldl (betterLane s i) none) l = some l := by
    cases best : before.foldl (betterLane s i) none with
    | none => rfl
    | some m =>
      have hm : m ∈ before := (foldl_betterLane_mem best).resolve_right nofun
      exact betterLane_replaces (first m (List.mem_append_left _ hm)) (earlier m hm)
  rw [List.foldl_append, List.foldl_cons, taken]
  exact foldl_betterLane_stays fun m hm => first m (by simp [hm])

end

theorem bestLane_eq_none {s : State} {j : Job} (h : ∀ l, mayStart s j l = false) : bestLane s j = none := by
  have noLane : allLanes.filter (mayStart s j) = [] := List.filter_eq_nil_iff.2 fun l _ => by simp [h l]
  rw [bestLane, noLane, List.foldl_nil]

theorem bestLane_eq_some {s : State} {j : Job} {l : Lane} (may : mayStart s j l = true)
    (first : ∀ m, mayStart s j m = true → lanePrecedes s j.site l m) : bestLane s j = some l :=
  foldl_betterLane_eq ((List.pairwise_lt_finRange 4).filter _) (List.mem_filter.2 ⟨List.mem_finRange l, may⟩)
    fun m hm => first m (List.mem_filter.1 hm).2

/-- The next pair is the earliest job that may start, with its best lane (R70). -/
theorem nextPair_eq_some {s : State} {before after : List Job} {j : Job} {l : Lane} (jobs : s.jobs = before ++ j :: after)
    (held : ∀ k ∈ before, ∀ m, mayStart s k m = false) (best : bestLane s j = some l) : nextPair s = some (j, l) := by
  have skipped : before.findSome? (fun k => (bestLane s k).map fun m => (k, m)) = none :=
    List.findSome?_eq_none_iff.2 fun k hk => by rw [bestLane_eq_none (held k hk), Option.map_none]
  rw [nextPair, jobs, List.findSome?_append, skipped, Option.none_or, List.findSome?_cons, best]
  rfl

/-! ### Pairing (R71) -/

/-- A pairing changes the entry of its job and no other (R61, R71). -/
theorem jobs_pair_eq {s : State} (once : (s.jobs.map (·.id)).Nodup) {before after : List Job} {j : Job} (l : Lane)
    (jobs : s.jobs = before ++ j :: after) : (pair j l s).jobs = before ++ pairedJob l s.now j :: after := by
  rw [jobs, List.map_append, List.map_cons] at once
  obtain ⟨-, tail, apart⟩ := List.nodup_append.1 once
  have others {part : List Job} (ne : ∀ x ∈ part, x.id ≠ j.id) :
      (part.map fun x => if x.id = j.id then pairedJob l s.now x else x) = part :=
    (List.map_congr_left fun x hx => if_neg (ne x hx)).trans (List.map_id part)
  rw [jobs_pair, jobs, List.map_append, List.map_cons, if_pos rfl,
    others fun x hx => apart _ (List.mem_map_of_mem hx) _ (by simp),
    others fun x hx e => (List.nodup_cons.1 tail).1 (e ▸ List.mem_map_of_mem hx)]

/-- Settles O49: the two parts of eligibility, and `pair` on the earliest job that may start with its best lane. -/
theorem pairingTakesEarliestAndBest : Obligations.PairingTakesEarliestAndBest := by
  unfold Obligations.PairingTakesEarliestAndBest
  refine ⟨fun s j l => ?_, fun s running fits => ⟨fun held => ?_, fun before after j l jobs held may first => ?_⟩⟩
  · rw [mayStart_iff, siteEligible_iff, laneEligible_iff]
    cases work : j.work with
    | measure p =>
      simp only [lanePathFits, work, Work.kind, startState_measure, pathUsable_iff, jobBudget]
      tauto
    | check t =>
      simp only [lanePathFits, work, Work.kind, startState_check, jobBudget, Config.checkBudget]
      tauto
  · exact (occurs_running running).trans (congrArg _ (lanePairing_of_not held))
  · have next : nextPair s = some (j, l) := nextPair_eq_some jobs held (bestLane_eq_some may first)
    have paired : lanePairing s = pair j l s := by rw [lanePairing, next]
    refine ⟨pair j l s, (occurs_running running).trans (congrArg _ paired), jobs_pair_eq fits.ids l jobs, ?_,
      fun i ne => ?_, ?_, fun m ne => ?_, rfl⟩
    · rw [site_pair, if_pos rfl]
    · rw [site_pair, if_neg ne]
    · rw [lane_pair, if_pos rfl]
      rfl
    · rw [lane_pair, if_neg ne]

end Sys2Proof.Machine
end

section
/-!
SUPPORT. The end of a reduction, with its report for a MEASURE and for a CHECK job, and the budget's expiry (R92 to R95,
R105, R120, R123, R164, R165).
-/
namespace Sys2Proof.Machine

/-! ### Floors and reports (R123, R164, R165) -/

/-- A floor is the rounded root of its square, and absent beyond the range of a figure (R164). -/
theorem floorOf_rmsFigure (sq : Rat) :
    floorOf (rmsFigure sq) = if 2147483647 < roundSqrt sq then none else some (roundSqrt sq) := by
  by_cases beyond : 2147483647 < roundSqrt sq
  · have saturates : int32Max < (roundSqrt sq : Int) := Int.ofNat_lt.2 beyond
    rw [if_pos beyond, rmsFigure, jitterFigure, if_pos saturates]
    rfl
  · have fits : ¬ int32Max < (roundSqrt sq : Int) := fun h => beyond (Int.ofNat_lt.1 h)
    rw [if_neg beyond, rmsFigure, jitterFigure, if_neg fits]
    rfl

section
variable {s : State} {l : Lane} {j : Job} {p : RunParams}

theorem reductionReport_measure {x : PlanIx} {r : Plan} (work : j.work = .measure x) (planned : s.plan x = some r) :
    reductionReport s l j p =
      let m := reduceMeasure p r (s.path j.site l) (s.lane l).memory fun k => Config.freeRat (s.free + k)
      ⟨.normal, some m.freq, m.figures, m.spots, .none, none⟩ := by
  simp only [reductionReport, work, planned]

theorem reductionReport_check {target : Lane} (work : j.work = .check target) : reductionReport s l j p =
    let r := reduceCheck p (s.lane l).memory fun k => Config.freeRat (s.free + k)
    ⟨.normal, some r.1, .none, [], r.2, some (rate s.settings r.2.tie)⟩ := by
  simp only [reductionReport, work]

/-! ### The two expiries (R92 to R95) -/

theorem laneEnd_of_laneJob (job : laneJob s l = some j) (e : EndReport) (dest : LaneState) :
    laneEnd l e dest s = endJob l j e dest s := by
  simp only [laneEnd, job]

/-- A reduction that is over ends the job with its report; 16 free values count as drawn, from those of before the end
(R92, log 17). -/
theorem reductionEnd_due (job : laneJob s l = some j) (params : paramsOf s j.work = some p)
    (reducing : (s.lane l).state = .reducing) (due : (s.lane l).run.reduce.due = true) :
    reductionEnd l s = { endJob l j (reductionReport s l j p) .idle s with free := s.free + 16 } := by
  have run : laneRun s l = some (j, p) := by simp [laneRun, job, params]
  simp only [reductionEnd, if_pos (And.intro reducing due), run]
  rw [laneEnd_of_laneJob job, drawReduction, (keepsRest_endJob l j _ .idle s).free]
  rfl

theorem budgetExpiry_ends (job : laneJob s l = some j) (at_work : isMeasuring (s.lane l).state = true)
    (due : (s.lane l).run.budget.due = true) (before : (s.lane l).state ≠ .reducing) :
    budgetExpiry l s = endJob l j (bareEnd .timeout (s.lane l).run.coarse) .idle s := by
  simp only [budgetExpiry, at_work, due, Bool.and_self, if_true, if_neg before, laneEnd_of_laneJob job]

theorem budgetExpiry_reducing (reducing : (s.lane l).state = .reducing) (due : (s.lane l).run.budget.due = true) :
    budgetExpiry l s = s.modLane l fun c => { c with run := { c.run with budget := ⟨0, false⟩ } } := by
  have at_work : isMeasuring (s.lane l).state = true := by rw [reducing]; rfl
  simp only [budgetExpiry, at_work, due, Bool.and_self, if_true, if_pos reducing]
  rfl

end

/-- Settles O52: the end of the reduction with the report of its kind of job, and the expiry by the lane's state. -/
theorem reductionAndBudgetEnd : Obligations.ReductionAndBudgetEnd := by
  unfold Obligations.ReductionAndBudgetEnd
  intro s l j p running job params c e m res free freq plain ends
  refine ⟨fun reducing due => ?_, fun at_work due => ⟨fun before => ?_, fun reducing => ?_⟩⟩
  · have reported {x : EndReport} (report : reductionReport s l j p = x) : ends x := by
      rw [← report]
      exact (occurs_running running).trans (congrArg Host.Outcome.next (reductionEnd_due job params reducing due))
    refine ⟨fun x r work planned => reported ?_, fun target work => reported ?_⟩
    · rw [reductionReport_measure work planned]
      rfl
    · rw [reductionReport_check work]
      simp only [reduceCheck, floorOf_rmsFigure]
      rfl
  · exact (occurs_running running).trans (congrArg Host.Outcome.next (budgetExpiry_ends job at_work due before))
  · exact (occurs_running running).trans (congrArg Host.Outcome.next (budgetExpiry_reducing reducing due))

end Sys2Proof.Machine
end

section
/-!
SUPPORT. What the exact arithmetic of the figures computes: rounding to the nearest with halves away from zero, the rounded
root (R120), and 100 times the base-ten logarithm, rounded (R118).
-/
namespace Sys2Proof.Machine

/-! ### Rounding to the nearest (R120) -/

theorem natAbs_num_div_den (q : ℚ) : (q.num.natAbs : ℚ) / q.den = |q| := by
  rw [Nat.cast_natAbs, Int.cast_abs, ← Nat.abs_cast q.den, ← abs_div, Rat.num_div_den]

/-- The magnitude of a rounded number is the whole part of its magnitude and a half. -/
theorem roundHalfAway_eq (q : ℚ) :
    roundHalfAway q = if q < 0 then -(⌊|q| + 1 / 2⌋₊ : ℤ) else (⌊|q| + 1 / 2⌋₊ : ℤ) := by
  have shifted : |q| + 1 / 2 = ((2 * q.num.natAbs + q.den : ℕ) : ℚ) / (2 * q.den : ℕ) := by
    rw [← natAbs_num_div_den]
    push_cast
    field_simp
  simp only [roundHalfAway, shifted, Nat.floor_div_eq_div, Rat.num_neg]

/-- A rounded number differs by a half at most, and by a half only away from zero. -/
theorem roundHalfAway_nearest (q : ℚ) :
    2 * |(roundHalfAway q : ℚ) - q| ≤ 1 ∧ (2 * |(roundHalfAway q : ℚ) - q| = 1 → |q| < |(roundHalfAway q : ℚ)|) := by
  have below : (⌊|q| + 1 / 2⌋₊ : ℚ) ≤ |q| + 1 / 2 := Nat.floor_le (by positivity)
  have above : |q| + 1 / 2 < ⌊|q| + 1 / 2⌋₊ + 1 := Nat.lt_floor_add_one _
  have distance : |(roundHalfAway q : ℚ) - q| = |(⌊|q| + 1 / 2⌋₊ : ℚ) - abs q| := by
    rw [roundHalfAway_eq]
    split
    · next negative =>
      rw [abs_of_neg negative, ← abs_neg]
      push_cast
      ring_nf
    · next nonneg => rw [abs_of_nonneg (not_lt.1 nonneg), Int.cast_natCast]
  have magnitude : |(roundHalfAway q : ℚ)| = ⌊|q| + 1 / 2⌋₊ := by
    rw [roundHalfAway_eq]
    split <;> simp
  rw [distance, magnitude]
  refine ⟨?_, fun tie => ?_⟩
  · have near : |(⌊|q| + 1 / 2⌋₊ : ℚ) - abs q| ≤ 1 / 2 := abs_le.2 ⟨by linarith, by linarith⟩
    linarith
  · by_contra toward
    rw [abs_of_nonpos (by linarith)] at tie
    linarith

/-! ### The rounded root (R120) -/

/-- The places below the `k`-th complete a root whose error is below `2 ^ k`. -/
theorem foldl_sqrtPlace_eq_sqrt (n : ℕ) : ∀ k r : ℕ, r * r ≤ n → n < (r + 2 ^ k) * (r + 2 ^ k) →
    (List.range k).reverse.foldl (sqrtPlace n) r = Nat.sqrt n
  | 0, r, below, above => Nat.eq_sqrt.2 ⟨below, above⟩
  | k + 1, r, below, above => by
    rw [List.range_succ, List.reverse_append, List.reverse_singleton, List.singleton_append, List.foldl_cons]
    have halves : r + 2 ^ (k + 1) = r + 2 ^ k + 2 ^ k := by rw [pow_succ]; omega
    rw [halves] at above
    by_cases fits : (r + 2 ^ k) * (r + 2 ^ k) ≤ n
    · rw [sqrtPlace, if_pos fits]
      exact foldl_sqrtPlace_eq_sqrt n k _ fits above
    · rw [sqrtPlace, if_neg fits]
      exact foldl_sqrtPlace_eq_sqrt n k _ below (not_le.1 fits)

theorem natSqrt_eq_sqrt (n : ℕ) : natSqrt n = Nat.sqrt n := by
  refine foldl_sqrtPlace_eq_sqrt n _ 0 (Nat.zero_le n) ?_
  calc n < 2 ^ (n.log2 + 1) := Nat.lt_log2_self
    _ ≤ 2 ^ ((n.log2 / 2 + 1) + (n.log2 / 2 + 1)) := Nat.pow_le_pow_right two_pos (by omega)
    _ = (0 + 2 ^ (n.log2 / 2 + 1)) * (0 + 2 ^ (n.log2 / 2 + 1)) := by rw [zero_add, pow_add]

theorem roundSqrt_eq {q : ℚ} (nonneg : 0 ≤ q) : roundSqrt q = (Nat.sqrt ⌊4 * q⌋₊ + 1) / 2 := by
  have quotient : 4 * q = ((4 * q.num.natAbs : ℕ) : ℚ) / q.den := by
    rw [Nat.cast_mul, mul_div_assoc, natAbs_num_div_den, abs_of_nonneg nonneg, Nat.cast_ofNat]
  rw [roundSqrt, if_neg (not_lt.2 (Rat.num_nonneg.2 nonneg)), natSqrt_eq_sqrt, quotient, Nat.floor_div_eq_div]

/-- The rounded root lies within a half of the root. -/
theorem roundSqrt_nearest {q : ℚ} (nonneg : 0 ≤ q) :
    4 * q < (2 * (roundSqrt q : ℚ) + 1) * (2 * (roundSqrt q : ℚ) + 1)
      ∧ (roundSqrt q ≠ 0 → (2 * (roundSqrt q : ℚ) - 1) * (2 * (roundSqrt q : ℚ) - 1) ≤ 4 * q) := by
  have whole : roundSqrt q = (Nat.sqrt ⌊4 * q⌋₊ + 1) / 2 := roundSqrt_eq nonneg
  generalize roundSqrt q = r at whole ⊢
  refine ⟨?_, fun ne => ?_⟩
  · have root : Nat.sqrt ⌊4 * q⌋₊ < 2 * r + 1 := by omega
    have square : ⌊4 * q⌋₊ < (2 * r + 1) * (2 * r + 1) := Nat.sqrt_lt.1 root
    exact_mod_cast (Nat.floor_lt (by positivity)).1 square
  · obtain ⟨k, rfl⟩ := Nat.exists_eq_succ_of_ne_zero ne
    have root : 2 * k + 1 ≤ Nat.sqrt ⌊4 * q⌋₊ := by omega
    have square : (((2 * k + 1) * (2 * k + 1) : ℕ) : ℚ) ≤ 4 * q := (Nat.le_floor_iff (by positivity)).1 (Nat.le_sqrt.1 root)
    calc (2 * ((k + 1 : ℕ) : ℚ) - 1) * (2 * ((k + 1 : ℕ) : ℚ) - 1) = (((2 * k + 1) * (2 * k + 1) : ℕ) : ℚ) := by
          push_cast
          ring
      _ ≤ 4 * q := square

/-! ### The rounded logarithm (R118) -/

theorem log10Nat_eq_log : ∀ {f n : ℕ}, n < 10 ^ (f + 1) → log10Nat f n = Nat.log 10 n
  | 0, n, bound => (Nat.log_of_lt (by simpa using bound)).symm
  | f + 1, n, bound => by
    by_cases digit : n < 10
    · rw [log10Nat, if_pos digit, Nat.log_of_lt digit]
    · have shorter : n / 10 < 10 ^ (f + 1) := Nat.div_lt_of_lt_mul (by rwa [pow_succ'] at bound)
      rw [log10Nat, if_neg digit, log10Nat_eq_log shorter, Nat.log_of_one_lt_of_le (by norm_num) (not_lt.1 digit),
        add_comm]

theorem lt_ten_pow_log2_succ {m n : ℕ} (le : m ≤ n) : m < 10 ^ (n.log2 + 1) :=
  le.trans_lt (Nat.lt_log2_self.trans_le (Nat.pow_le_pow_left (by norm_num) _))

theorem clog_ten_eq_log_pred {t : ℕ} (two : 2 ≤ t) : Nat.clog 10 t = Nat.log 10 (t - 1) + 1 := by
  refine le_antisymm ((Nat.clog_le_iff_le_pow (by norm_num)).2 ?_) ((Nat.lt_clog_iff_pow_lt (by norm_num)).2 ?_)
  · have above : t - 1 < 10 ^ (Nat.log 10 (t - 1) + 1) := Nat.lt_pow_succ_log_self (by norm_num) _
    omega
  · have below : 10 ^ Nat.log 10 (t - 1) ≤ t - 1 := Nat.pow_log_le_self 10 (by omega)
    omega

theorem ceil_div_eq {a b : ℕ} (pos : 0 < b) : ⌈(a : ℚ) / b⌉₊ = (a + b - 1) / b := by
  refine eq_of_forall_ge_iff fun n => ?_
  rw [Nat.ceil_le, div_le_iff₀ (Nat.cast_pos.2 pos), ← Nat.ceilDiv_eq_add_pred_div, ceilDiv_le_iff_le_mul pos, mul_comm b]
  exact_mod_cast Iff.rfl

theorem floorLog10_eq_log {q : ℚ} (pos : 0 < q) : floorLog10 q = Int.log 10 q := by
  have num_pos : 0 < q.num.natAbs := Int.natAbs_pos.2 (Rat.num_pos.2 pos).ne'
  have fraction : q = (q.num.natAbs : ℚ) / q.den := by rw [natAbs_num_div_den, abs_of_pos pos]
  have den_pos : (0 : ℚ) < q.den := Nat.cast_pos.2 q.den_pos
  by_cases one_le : q.den ≤ q.num.natAbs
  · have one_le' : 1 ≤ q := by
      rw [fraction, one_le_div den_pos]
      exact_mod_cast one_le
    have whole : ⌊q⌋₊ = q.num.natAbs / q.den := by
      conv_lhs => rw [fraction]
      exact Nat.floor_div_eq_div _ _
    simp only [floorLog10, if_pos one_le]
    rw [Int.log_of_one_le_right _ one_le', whole, log10Nat_eq_log (lt_ten_pow_log2_succ (Nat.div_le_self _ _))]
  · have le_one : q ≤ 1 := by
      rw [fraction, div_le_one den_pos]
      exact_mod_cast (not_le.1 one_le).le
    have ceiling : ⌈q⁻¹⌉₊ = (q.den + q.num.natAbs - 1) / q.num.natAbs := by
      conv_lhs => rw [fraction, inv_div]
      exact ceil_div_eq num_pos
    have two : 2 ≤ (q.den + q.num.natAbs - 1) / q.num.natAbs := (Nat.le_div_iff_mul_le num_pos).2 (by omega)
    simp only [floorLog10, if_neg one_le]
    rw [Int.log_of_right_le_one _ le_one, ceiling, clog_ten_eq_log_pred two,
      log10Nat_eq_log (lt_ten_pow_log2_succ (Nat.sub_le _ _)), Int.negSucc_eq, Nat.cast_succ]

/-- Half of the rounded value's neighbours on either side, as powers: the value is 100 times the logarithm, rounded. -/
theorem round100Log10_nearest {q : ℚ} (pos : 0 < q) :
    (10 : ℚ) ^ (2 * round100Log10 q - 1) ≤ q ^ 200 ∧ q ^ 200 < (10 : ℚ) ^ (2 * round100Log10 q + 1) := by
  have power : 0 < q ^ 200 := pow_pos pos 200
  have rounded : round100Log10 q = (Int.log 10 (q ^ 200) + 1) / 2 := by rw [round100Log10, floorLog10_eq_log power]
  refine ⟨(zpow_le_zpow_right₀ (by norm_num) ?_).trans (Int.zpow_log_le_self (b := 10) (by norm_num) power),
    (Int.lt_zpow_succ_log_self (b := 10) (by norm_num) (q ^ 200)).trans_le (zpow_le_zpow_right₀ (by norm_num) ?_)⟩
  · omega
  · omega

end Sys2Proof.Machine
end

section
/-!
SUPPORT. The least-squares line by its normal equations (R113), and the time-domain measures of a capture (R114 to R116).
-/
namespace Sys2Proof.Machine

/-! ### Sums, means and spans of lists -/

theorem sumRat_eq_sum (l : List ℚ) : sumRat l = l.sum := List.sum_eq_foldl.symm

theorem meanRat_eq (l : List ℚ) : meanRat l = l.sum / (l.length : ℕ) := by rw [meanRat, sumRat_eq_sum]

theorem meanSquare_eq (l : List ℚ) : meanSquare l = (l.map fun x => x * x).sum / (l.length : ℕ) := by
  rw [meanSquare, meanRat_eq, List.length_map]

/-- The largest of a list less its smallest. -/
def IsSpread (l : List ℚ) (v : ℚ) : Prop :=
  ∃ hi ∈ l, ∃ lo ∈ l, v = hi - lo ∧ ∀ x ∈ l, lo ≤ x ∧ x ≤ hi

theorem isSpread_spanRat : ∀ {l : List ℚ}, l ≠ [] → IsSpread l (spanRat l)
  | x :: l, _ => by
    obtain ⟨hi_mem, le_hi⟩ := List.max?_eq_some_iff.1 (List.max?_cons' (x := x) (xs := l))
    obtain ⟨lo_mem, lo_le⟩ := List.min?_eq_some_iff.1 (List.min?_cons' (x := x) (xs := l))
    exact ⟨_, hi_mem, _, lo_mem, rfl, fun y hy => ⟨lo_le y hy, le_hi y hy⟩⟩

theorem mapIdx_map_eq {α β γ : Type} (l : List α) (g : α → β) (f : ℕ → β → γ) :
    (l.map g).mapIdx f = l.mapIdx fun i x => f i (g x) :=
  List.ext_getElem (by simp) fun i _ _ => by simp

theorem sum_mapIdx {α : Type} (l : List α) (f : ℕ → α → ℚ) :
    (l.mapIdx f).sum = ∑ i : Fin l.length, f i l[i] := by
  rw [List.mapIdx_eq_ofFn, List.sum_ofFn]
  rfl

/-! ### The normal equations (R113) -/

theorem sum_index (n : ℕ) : ∑ i : Fin n, ((i : ℕ) : ℚ) = (n : ℚ) * (n - 1) / 2 := by
  rw [← Finset.sum_range fun i => (i : ℚ)]
  induction n with
  | zero => simp
  | succ n ih =>
    rw [Finset.sum_range_succ, ih]
    push_cast
    ring

theorem sum_index_sq (n : ℕ) : ∑ i : Fin n, ((i : ℕ) : ℚ) * ((i : ℕ) : ℚ) = ((n : ℚ) - 1) * n * (2 * n - 1) / 6 := by
  rw [← Finset.sum_range fun i => (i : ℚ) * (i : ℚ)]
  induction n with
  | zero => simp
  | succ n ih =>
    rw [Finset.sum_range_succ, ih]
    push_cast
    ring

/-- The residuals of a line sum to what the sums of the times leave. -/
theorem sum_residuals (line : ℚ × ℚ) (ys : List ℚ) : (residuals line ys).sum =
    ys.sum - (ys.length * line.2 + line.1 * ((ys.length : ℚ) * (ys.length - 1) / 2)) := by
  rw [residuals, sum_mapIdx, Finset.sum_sub_distrib, Finset.sum_add_distrib, ← Finset.mul_sum, sum_index,
    ← Fin.sum_univ_getElem ys]
  simp

theorem sum_index_mul_residuals (line : ℚ × ℚ) (ys : List ℚ) :
    ((residuals line ys).mapIdx fun k r => (k : ℚ) * r).sum = (ys.mapIdx fun i y => (i : ℚ) * y).sum
      - (line.2 * ((ys.length : ℚ) * (ys.length - 1) / 2)
        + line.1 * (((ys.length : ℚ) - 1) * ys.length * (2 * ys.length - 1) / 6)) := by
  rw [residuals, List.mapIdx_mapIdx, sum_mapIdx, sum_mapIdx, ← sum_index, ← sum_index_sq, Finset.mul_sum,
    Finset.mul_sum, ← Finset.sum_add_distrib, ← Finset.sum_sub_distrib]
  refine Finset.sum_congr rfl fun i _ => ?_
  simp only [Function.comp_apply]
  ring

theorem exists_fitLine {ys : List ℚ} (two : 2 ≤ ys.length) : ∃ line, fitLine ys = some line := by
  rw [fitLine, if_neg (not_lt.2 two)]
  exact ⟨_, rfl⟩

/-- Cramer's rule for the two normal equations. -/
theorem normalEquations {n sx sxx sy sxy slope : ℚ} (n_ne : n ≠ 0) (det_ne : n * sxx - sx * sx ≠ 0)
    (solved : slope = (n * sxy - sx * sy) / (n * sxx - sx * sx)) :
    sy - (n * ((sy - slope * sx) / n) + slope * sx) = 0 ∧ sxy - ((sy - slope * sx) / n * sx + slope * sxx) = 0 := by
  have cleared : slope * (n * sxx - sx * sx) = n * sxy - sx * sy := (eq_div_iff det_ne).1 solved
  refine ⟨by field_simp; ring, ?_⟩
  field_simp
  linear_combination -cleared

/-- The samples of a line are not all at one number. -/
theorem det_line_ne {n : ℚ} (two : 2 ≤ n) :
    n * ((n - 1) * n * (2 * n - 1) / 6) - n * (n - 1) / 2 * (n * (n - 1) / 2) ≠ 0 := by
  have before : 0 < n - 1 := by linarith
  have factored : n * ((n - 1) * n * (2 * n - 1) / 6) - n * (n - 1) / 2 * (n * (n - 1) / 2)
      = n * n * ((n - 1) * (n + 1)) / 12 := by ring
  rw [factored]
  positivity

/-- The fitted line solves the normal equations: its residuals have no sum and no moment. -/
theorem fitLine_normal {ys : List ℚ} {line : ℚ × ℚ} (two : 2 ≤ ys.length) (fit : fitLine ys = some line) :
    (residuals line ys).sum = 0 ∧ ((residuals line ys).mapIdx fun k r => (k : ℚ) * r).sum = 0 := by
  have two' : (2 : ℚ) ≤ ys.length := by exact_mod_cast two
  rw [sum_residuals, sum_index_mul_residuals]
  rw [fitLine, if_neg (not_lt.2 two), sumRat_eq_sum, sumRat_eq_sum] at fit
  obtain rfl := Option.some.inj fit
  exact normalEquations (by linarith) (det_line_ne two') rfl

/-! ### The measures of a capture (R113 to R116) -/

section
variable {p : RunParams} {memory : List Sample}

theorem residuals_stamps (line : ℚ × ℚ) (memory : List Sample) : residuals line (memory.map (·.stamp)) =
    memory.mapIdx fun k x => x.stamp - (line.2 + line.1 * (k : ℚ)) := mapIdx_map_eq _ _ _

theorem freqOf_of_ne {slope : ℚ} (ne : slope ≠ 0) : freqOf p slope =
    some (((p.stride : ℕ) * (((10 ^ 15 : ℕ) : ℚ) / (p.nominal : ℕ)) / slope - 1) * (10 ^ 9 : ℕ)) := if_neg ne

theorem overSamples_of_ne {l : List ℚ} (f : List ℚ → ℚ) (ne : l ≠ []) : overSamples l f = some (f l) := by
  cases l with
  | nil => exact absurd rfl ne
  | cons x l => rfl

/-- What is measured of the residuals of at least two samples (R113, R114). -/
theorem measuresOf_line (p : RunParams) (two : 2 ≤ memory.length) : ∃ slope at0 : ℚ,
    let res := memory.mapIdx fun k x => x.stamp - (at0 + slope * (k : ℚ))
    res.sum = 0 ∧ (res.mapIdx fun k r => (k : ℚ) * r).sum = 0 ∧ captureResiduals memory = res
      ∧ (slope ≠ 0 → (measuresOf p memory).freq = some
          (((p.stride : ℕ) * (((10 ^ 15 : ℕ) : ℚ) / (p.nominal : ℕ)) / slope - 1) * (10 ^ 9 : ℕ)))
      ∧ (measuresOf p memory).tieSq = some ((res.map fun r => r * r).sum / (memory.length : ℕ))
      ∧ ∃ v, (measuresOf p memory).tiePp = some v ∧ IsSpread res v := by
  have stamps : 2 ≤ (memory.map (·.stamp)).length := by rwa [List.length_map]
  obtain ⟨line, fit⟩ := exists_fitLine stamps
  obtain ⟨no_sum, no_moment⟩ := fitLine_normal stamps fit
  have ne : residuals line (memory.map (·.stamp)) ≠ [] := by
    rw [residuals_stamps, List.mapIdx_ne_nil_iff, ← List.length_pos_iff]
    omega
  refine ⟨line.1, line.2, ?_⟩
  rw [← residuals_stamps line memory]
  refine ⟨no_sum, no_moment, ?_, fun slope_ne => ?_, ?_, spanRat _, ?_, isSpread_spanRat ne⟩
  · simp only [captureResiduals, fit]
  · simp only [measuresOf, fit, Option.bind_some, freqOf_of_ne slope_ne]
  · simp only [measuresOf, fit, Option.map_some, meanSquare_eq]
    rw [residuals, List.length_mapIdx, List.length_map]
  · simp only [measuresOf, fit, Option.map_some]

/-- What is measured of the periods of at least one sample (R115, R116). -/
theorem measuresOf_periods (p : RunParams) (one : 1 ≤ memory.length) :
    let n : ℚ := (memory.length : ℕ)
    let first := memory.map (·.first)
    let diff := memory.map fun x => x.second - x.first
    (measuresOf p memory).periodSq = some ((first.map fun x => (x - first.sum / n) * (x - first.sum / n)).sum / n)
      ∧ (∃ v, (measuresOf p memory).periodPp = some v ∧ IsSpread first v)
      ∧ (measuresOf p memory).c2cSq = some ((diff.map fun x => x * x).sum / n)
      ∧ ∃ v, (measuresOf p memory).c2cPp = some v ∧ IsSpread diff v := by
  intro n first diff
  have samples : memory ≠ [] := List.length_pos_iff.1 one
  have first_length : first.length = memory.length := List.length_map _
  have diff_length : diff.length = memory.length := List.length_map _
  have first_ne : first ≠ [] := List.map_eq_nil_iff.not.2 samples
  have diff_ne : diff ≠ [] := List.map_eq_nil_iff.not.2 samples
  have period : (measuresOf p memory).periodSq = some (meanSquare (first.map fun x => x - meanRat first)) :=
    overSamples_of_ne (fun l => meanSquare (l.map fun x => x - meanRat l)) first_ne
  have change : (measuresOf p memory).c2cSq = some (meanSquare diff) := overSamples_of_ne _ diff_ne
  refine ⟨?_, ⟨_, overSamples_of_ne _ first_ne, isSpread_spanRat first_ne⟩, ?_, _, overSamples_of_ne _ diff_ne,
    isSpread_spanRat diff_ne⟩
  · rw [period, meanSquare_eq, meanRat_eq, List.map_map, first_length, List.length_map, first_length]
    rfl
  · rw [change, meanSquare_eq, diff_length]

end

end Sys2Proof.Machine
end

section
/-!
SUPPORT. The spectrum of the residuals: the densities over the half-overlapped segments, PHASE_INT's square (R117, R119), and
the transform value of a bin with its weight and turn multiplied out (log 15).
-/
namespace Sys2Proof.Machine

theorem map_mapIdx_eq {α β γ : Type} (l : List α) (f : ℕ → α → β) (g : β → γ) :
    (l.mapIdx f).map g = l.mapIdx fun i x => g (f i x) :=
  List.ext_getElem (by simp) fun i _ _ => by simp

/-! ### The segments (R117, R119) -/

theorem segments_of_le {res : List ℚ} (whole : 1024 ≤ res.length) : segments res =
    (List.range ((res.length - 1024) / 512 + 1)).map fun k => (res.drop (512 * k)).take 1024 :=
  if_neg (not_lt.2 whole)

theorem segments_ne_nil {res : List ℚ} (whole : 1024 ≤ res.length) : segments res ≠ [] := by
  rw [segments_of_le whole]
  simp

theorem binDensity_of_ne {p : RunParams} {res : List ℚ} (ne : segments res ≠ []) (m : ℕ) : binDensity p res m =
    some (meanRat ((segments res).map fun g => 2 * binPower g m / (sampleRate p * 384))) := by
  rw [binDensity]
  split
  · next nil => exact absurd nil ne
  · rfl

theorem phaseSquare_of_ne {p : RunParams} {res : List ℚ} (ne : segments res ≠ []) (lo hi : ℕ) : phaseSquare p res lo hi =
    some (sumRat ((List.range (hi + 1 - lo)).map fun k => (binDensity p res (lo + k)).getD 0 * (sampleRate p / 1024))) := by
  rw [phaseSquare]
  split
  · next nil => exact absurd nil ne
  · rfl

/-- The density of a bin is the mean over the segments that fit whole (R117). -/
theorem binDensity_of_le (p : RunParams) {res : List ℚ} (whole : 1024 ≤ res.length) (m : ℕ) :
    let k := (res.length - 1024) / 512 + 1
    binDensity p res m = some (((List.range k).map fun i =>
      2 * binPower ((res.drop (512 * i)).take 1024) m / (sampleRate p * 384)).sum / (k : ℚ)) := by
  rw [binDensity_of_ne (segments_ne_nil whole), segments_of_le whole, meanRat_eq, List.map_map, List.length_map,
    List.length_range]
  rfl

theorem phaseSquare_of_le (p : RunParams) {res : List ℚ} (whole : 1024 ≤ res.length) (lo hi : ℕ) :
    phaseSquare p res lo hi = some (((List.range (hi + 1 - lo)).map fun i =>
      (binDensity p res (lo + i)).getD 0 * (sampleRate p / 1024)).sum) := by
  rw [phaseSquare_of_ne (segments_ne_nil whole), sumRat_eq_sum]

/-! ### The transform value of a bin (R117, log 15) -/

/-- A function of the first half of the circle, continued over the second half with the opposite sign. -/
def halfTurn (f : ℕ → ℚ) (e : ℕ) : ℚ := if e % 1024 < 512 then f (e % 1024) else -f (e % 1024 - 512)

theorem halfTurn_mod (f : ℕ → ℚ) (e : ℕ) : halfTurn f (e % 1024) = halfTurn f e := by
  rw [halfTurn, Nat.mod_mod, halfTurn]

/-- A term of the transform counts at its exponent in the first half, or at half a turn before it with the sign changed. -/
theorem sum_term_mul (f : ℕ → ℚ) (w : ℚ) {e : ℕ} (below : e < 1024) :
    ∑ i ∈ Finset.range 512, (if e = i then w else if e = i + 512 then -w else 0) * f i = w * halfTurn f e := by
  rw [halfTurn, Nat.mod_eq_of_lt below]
  by_cases first : e < 512
  · rw [if_pos first, Finset.sum_eq_single_of_mem e (Finset.mem_range.2 first), if_pos rfl]
    intro i _ ne
    rw [if_neg ne.symm, if_neg (by omega), zero_mul]
  · rw [if_neg first, Finset.sum_eq_single_of_mem (e - 512) (Finset.mem_range.2 (by omega)), if_neg (by omega),
      if_pos (by omega), neg_mul, mul_neg]
    intro i inside ne
    have low : i < 512 := Finset.mem_range.1 inside
    rw [if_neg (by omega), if_neg (by omega), zero_mul]

theorem binCoeff_nil (e : ℕ) : binCoeff [] e = 0 := rfl

theorem binCoeff_cons (t : ℕ × ℚ) (terms : List (ℕ × ℚ)) (e : ℕ) : binCoeff (t :: terms) e =
    (if t.1 = e then t.2 else if t.1 = e + 512 then -t.2 else 0) + binCoeff terms e := by
  rw [binCoeff, sumRat_eq_sum, List.map_cons, List.sum_cons, ← sumRat_eq_sum]
  rfl

/-- Collecting the terms by exponents does not change their sum over the circle. -/
theorem sum_binCoeff_mul (f : ℕ → ℚ) : ∀ {terms : List (ℕ × ℚ)}, (∀ t ∈ terms, t.1 < 1024) →
    ∑ e ∈ Finset.range 512, binCoeff terms e * f e = (terms.map fun t => t.2 * halfTurn f t.1).sum
  | [], _ => by simp only [binCoeff_nil, zero_mul, Finset.sum_const_zero, List.map_nil, List.sum_nil]
  | t :: terms, below => by
    obtain ⟨head, tail⟩ := List.forall_mem_cons.1 below
    simp only [binCoeff_cons, add_mul, Finset.sum_add_distrib, sum_term_mul f t.2 head, sum_binCoeff_mul f tail,
      List.map_cons, List.sum_cons]

/-- The real or the imaginary part of the transform value of a bin, `f` being the cosines or the sines. -/
def transformPart (seg : List ℚ) (m : ℕ) (f : ℕ → ℚ) : ℚ :=
  (seg.mapIdx fun j r => r * (halfTurn f (1024 * 1024 - j * m) / 2 - halfTurn f (1024 * 1024 - j * (m - 1)) / 4
    - halfTurn f (1024 * 1024 - j * (m + 1)) / 4)).sum

theorem binTerms_below (seg : List ℚ) (m : ℕ) : ∀ t ∈ binTerms seg m, t.1 < 1024 := by
  intro t ht
  obtain ⟨ts, hts, ht⟩ := List.mem_flatten.1 ht
  obtain ⟨j, hj, rfl⟩ := List.mem_mapIdx.1 hts
  simp only [List.mem_cons, List.not_mem_nil, or_false] at ht
  obtain rfl | rfl | rfl := ht <;> exact Nat.mod_lt _ (by norm_num)

/-- Each sample of the segment enters by three terms: its own turn and the two of the Hann weight. -/
theorem sum_binTerms (seg : List ℚ) (m : ℕ) (f : ℕ → ℚ) :
    ((binTerms seg m).map fun t => t.2 * halfTurn f t.1).sum = transformPart seg m f := by
  rw [binTerms, List.map_flatten, List.sum_flatten, List.map_map, transformPart, map_mapIdx_eq]
  refine congrArg List.sum (congrArg (List.mapIdx · seg) (funext₂ fun j r => ?_))
  simp only [Function.comp_apply, List.map_cons, List.map_nil, List.sum_cons, List.sum_nil, halfTurn_mod]
  ring

theorem sum_mapIdx_range_map (g f : ℕ → ℚ) (n : ℕ) :
    sumRat (((List.range n).map g).mapIdx fun e c => c * f e) = ∑ e ∈ Finset.range n, g e * f e := by
  have diagonal : ((List.range n).map g).mapIdx (fun e c => c * f e) = (List.range n).map fun e => g e * f e :=
    List.ext_getElem (by simp) fun i _ _ => by simp
  rw [sumRat_eq_sum, diagonal]
  rfl

/-- The power of a bin is the squared magnitude of its transform value, whose parts are sums over the samples. -/
theorem binPower_eq (seg : List ℚ) (m : ℕ) :
    binPower seg m = transformPart seg m halfCos * transformPart seg m halfCos
      + transformPart seg m halfSin * transformPart seg m halfSin := by
  have part (f : ℕ → ℚ) : sumRat (((List.range 512).map (binCoeff (binTerms seg m))).mapIdx fun e c => c * f e)
      = transformPart seg m f := by
    rw [sum_mapIdx_range_map, sum_binCoeff_mul f (binTerms_below seg m), sum_binTerms]
  simp only [binPower, part]
  split
  · next zero =>
    have vanishes (f : ℕ → ℚ) : transformPart seg m f = 0 := by
      rw [← part f, sum_mapIdx_range_map]
      refine Finset.sum_eq_zero fun e he => ?_
      have none_left : binCoeff (binTerms seg m) e = 0 :=
        eq_of_beq (List.all_eq_true.1 zero _ (List.mem_map_of_mem (List.mem_range.2 (Finset.mem_range.1 he))))
      rw [none_left, zero_mul]
    rw [vanishes, vanishes, mul_zero, add_zero]
  · rfl

end Sys2Proof.Machine
end

section
/-!
SUPPORT. The bin nearest an offset and the level of a density (R118), the floor correction of an rms figure (R120, R122), and
the figures of chapter 6 together.
-/
namespace Sys2Proof.Machine

/-! ### Bins and levels (R118) -/

/-- The nearest bin lies half a resolution below the offset at most, and less than half above it. -/
theorem nearestBin_nearest {p : RunParams} (x : ℕ) (pos : 1 ≤ p.nominal) :
    2 * (x * p.stride * 1024) ≤ (2 * nearestBin p x + 1) * p.nominal
      ∧ (nearestBin p x ≠ 0 → (2 * nearestBin p x - 1) * p.nominal < 2 * (x * p.stride * 1024)) := by
  have quotient : nearestBin p x = (2 * (x * p.stride * 1024) + p.nominal - 1) / (2 * p.nominal) := rfl
  generalize nearestBin p x = b, x * p.stride * 1024 = scaled, p.nominal = n at quotient pos ⊢
  have below : b * (2 * n) ≤ 2 * scaled + n - 1 := quotient ▸ Nat.div_mul_le_self _ _
  have above : 2 * scaled + n - 1 < (b + 1) * (2 * n) :=
    (Nat.div_lt_iff_lt_mul (by omega)).1 (quotient ▸ Nat.lt_succ_self _)
  refine ⟨?_, fun ne => ?_⟩
  · have halves : (b + 1) * (2 * n) = (2 * b + 1) * n + n := by ring
    omega
  · obtain ⟨c, rfl⟩ := Nat.exists_eq_add_one_of_ne_zero ne
    have odd : 2 * (c + 1) - 1 = 2 * c + 1 := by omega
    have halves : (c + 1) * (2 * n) = (2 * c + 1) * n + n := by ring
    rw [odd]
    omega

theorem piRat_pos : 0 < piRat := by
  have numerator : 0 < fixedPi := by decide +kernel
  have denominator : 0 < fixedOne := by decide +kernel
  exact div_pos (Int.cast_pos.2 numerator) (Int.cast_pos.2 denominator)

theorem spotLevelOf_of_nonpos (p : RunParams) (x : ℕ) {density : ℚ} (none_left : density ≤ 0) :
    spotLevelOf p x density = ⟨x, -2147483648, true⟩ := if_pos none_left

/-- Half of the phase density of a bin. -/
def halfPhaseDensity (p : RunParams) (density : ℚ) : ℚ :=
  2 * piRat * (p.nominal : ℕ) * (2 * piRat * (p.nominal : ℕ)) * density / (2 * (10 ^ 30 : ℕ))

theorem halfPhaseDensity_pos {p : RunParams} {density : ℚ} (nominal : 1 ≤ p.nominal) (pos : 0 < density) :
    0 < halfPhaseDensity p density := by
  have pi_pos := piRat_pos
  have nominal_pos : (0 : ℚ) < p.nominal := Nat.cast_pos.2 nominal
  rw [halfPhaseDensity]
  positivity

theorem spotLevelOf_of_pos (p : RunParams) (x : ℕ) {density : ℚ} (pos : 0 < density) :
    let v := round100Log10 (halfPhaseDensity p density)
    spotLevelOf p x density =
      ⟨x, clampInt (-2147483648) 2147483647 v, decide (v < -2147483648 ∨ 2147483647 < v)⟩ := by
  intro v
  rw [Bool.decide_or]
  exact if_neg (not_le.2 pos)

/-! ### Floor correction (R120, R122) -/

/-- A jitter figure stops at the upper end of its range, and is SATURATED beyond it (R120). -/
theorem jitterFigure_natCast (flags : FigureFlags) (unmarked : flags.saturated = false) (r : ℕ) :
    jitterFigure flags r =
      ⟨if 2147483647 < r then 2147483647 else r, { flags with saturated := decide (2147483647 < r) }⟩ := by
  by_cases beyond : 2147483647 < r
  · have saturates : int32Max < (r : ℤ) := Int.ofNat_lt.2 beyond
    rw [jitterFigure, if_pos saturates, if_pos beyond, decide_eq_true beyond]
    rfl
  · have fits : ¬ int32Max < (r : ℤ) := fun h => beyond (Int.ofNat_lt.1 h)
    rw [jitterFigure, if_neg fits, if_neg beyond, decide_eq_false beyond, ← unmarked]

theorem correctedFigure_unchecked (floor : Option ℕ) (sq : ℚ) : correctedFigure .unchecked floor sq =
    jitterFigure { FigureFlags.none with noFloor := true } (roundSqrt sq) := by rw [correctedFigure]

theorem correctedFigure_none (x : Rating) (sq : ℚ) : correctedFigure x none sq =
    jitterFigure { FigureFlags.none with noFloor := true } (roundSqrt sq) := by cases x <;> rfl

theorem correctedFigure_floor {x : Rating} (rated : x ≠ .unchecked) (f : ℕ) (sq : ℚ) : correctedFigure x (some f) sq =
    if ((f * f : ℕ) : ℚ) < sq then
      jitterFigure { FigureFlags.none with floorCorrected := true } (roundSqrt (sq - ((f * f : ℕ) : ℚ)))
    else jitterFigure { FigureFlags.none with belowFloor := true } 0 := by
  cases x with
  | unchecked => exact absurd rfl rated
  | good | marginal | bad => rfl

/-! ### The figures of chapter 6 -/

/-- Settles O53: line, periods, spectrum, levels, rounding and correction, each by the lemmas of its functions. -/
theorem figureRoundsAndCorrects : Obligations.FigureRoundsAndCorrects := by
  unfold Obligations.FigureRoundsAndCorrects
  intro spread
  refine ⟨fun p memory => ⟨measuresOf_line p, measuresOf_periods p⟩, fun p res whole =>
    ⟨binDensity_of_le p whole, phaseSquare_of_le p whole⟩, fun seg m _ _ _ => binPower_eq seg m,
    fun p x density nominal => ?_, roundHalfAway_nearest, fun x floor sq _ => ?_, fun sq => roundSqrt_nearest⟩
  · obtain ⟨below, above⟩ := nearestBin_nearest x nominal
    refine ⟨below, above, spotLevelOf_of_nonpos p x, fun pos => ?_⟩
    obtain ⟨least, most⟩ := round100Log10_nearest (halfPhaseDensity_pos nominal pos)
    exact ⟨_, least, most, spotLevelOf_of_pos p x pos⟩
  · cases floor with
    | none => exact (correctedFigure_none x sq).trans (jitterFigure_natCast _ rfl _)
    | some f =>
      refine ⟨fun unchecked => ?_, fun rated above => ?_, fun rated below => ?_⟩
      · rw [unchecked]
        exact (correctedFigure_unchecked _ sq).trans (jitterFigure_natCast _ rfl _)
      · exact (correctedFigure_floor rated f sq).trans ((if_pos above).trans (jitterFigure_natCast _ rfl _))
      · exact (correctedFigure_floor rated f sq).trans (if_neg (not_lt.2 below))

end Sys2Proof.Machine
end

section
/-!
SUPPORT. The completion queue names the FILLED slots (R124, R136): a deposit puts the handle of a listed job, whose slot
is RESERVED, at its tail; TAKE COMPLETION takes its head; nothing else touches it but RESTART and reset.
-/
namespace Sys2Proof.Machine

/-! ### Handles that join the queue -/

/-- The handles join the tail of the completion queue, and their slots become FILLED; no other slot becomes or stops being
FILLED (R126, R135). -/
structure Fills (hs : List Handle) (s t : State) : Prop where
  queue : t.results.queue = s.results.queue ++ hs
  filled : ∀ k, (t.slot k).isFilled = true ↔ k ∈ hs ∨ (s.slot k).isFilled = true

theorem fills_nil {s t : State} (queue : t.results.queue = s.results.queue)
    (filled : ∀ k, (t.slot k).isFilled = (s.slot k).isFilled) : Fills [] s t :=
  ⟨by simp [queue], fun k => by simp [filled k]⟩

theorem fills_of_results {s t : State} (h : t.results = s.results) : Fills [] s t :=
  fills_nil (congrArg ResultStore.queue h) fun k => by rw [slot_of_results h]

theorem Fills.append {a b : List Handle} {s t u : State} (h : Fills a s t) (k : Fills b t u) : Fills (a ++ b) s u :=
  ⟨by rw [k.queue, h.queue, List.append_assoc], fun x => by rw [k.filled, h.filled, List.mem_append]; tauto⟩

theorem fills_of_slot {h : Handle} {s t : State} (queue : t.results.queue = s.results.queue ++ [h])
    (slot : ∀ k, ∃ r, t.slot k = if k = h then .filled r else s.slot k) : Fills [h] s t := by
  refine ⟨queue, fun k => ?_⟩
  obtain ⟨r, e⟩ := slot k
  rw [e, List.mem_singleton]
  split
  · rename_i at_h
    exact iff_of_true rfl (.inl at_h)
  · rename_i ne
    exact (or_iff_right ne).symm

theorem fills_endInList (code : TermCode) (s : State) (j : Job) : Fills [j.handle] s (endInList code s j) :=
  fills_of_slot (queue_endInList code s j) (slot_endInList code s j)

theorem queue_endJob (l : Lane) (j : Job) (e : EndReport) (dest : LaneState) (s : State) :
    (endJob l j e dest s).results.queue = s.results.queue ++ [j.handle] := by
  rw [endJob_eq, results_leave_detach, results_setHold, endDeposit, results_deposit, results_writeCheckedPath]
  rfl

theorem fills_endJob (l : Lane) (j : Job) (e : EndReport) (dest : LaneState) (s : State) :
    Fills [j.handle] s (endJob l j e dest s) :=
  fills_of_slot (queue_endJob l j e dest s) (slot_endJob l j e dest s)

theorem fills_cancelJob (s : State) (j : Job) : Fills [j.handle] s (cancelJob s j) := by
  unfold cancelJob
  split
  · exact fills_endInList _ s j
  · exact fills_endJob _ j _ _ s

/-- Ends one after another fill the slots of their jobs in order. -/
theorem fills_foldl {f : State → Job → State} (hf : ∀ s j, Fills [j.handle] s (f s j)) (gone : List Job) (s : State) :
    Fills (gone.map (·.handle)) s (gone.foldl f s) := by
  induction gone generalizing s with
  | nil => exact fills_of_results rfl
  | cons j rest ih => exact (hf s j).append (ih (f s j))

/-- An enqueue only reserves a FREE slot (R125). -/
theorem fills_appendJob (batch : Option Nat) (s : State) (n : NewJob) : Fills [] s (appendJob batch s n) := by
  cases free : lowestFree s with
  | none =>
    rw [appendJob_of_none free]
    exact fills_of_results rfl
  | some h =>
    rw [appendJob_of_free free]
    refine fills_nil rfl fun k => ?_
    show ((s.setSlot h .reserved).slot k).isFilled = (s.slot k).isFilled
    by_cases at_h : k = h
    · have isFree := lowestFree_isFree free
      rw [at_h, slot_setSlot_self]
      cases x : s.slot h <;> simp [x, Slot.isFree, Slot.isFilled] at isFree ⊢
    · rw [slot_setSlot_of_ne s _ at_h]

theorem fills_appendJobs (batch : Option Nat) (news : List NewJob) (s : State) : Fills [] s (appendJobs batch news s) :=
  foldl_related (Fills []) (fun _ => fills_of_results rfl) (fun _ _ _ h k => h.append k) _ (fills_appendJob batch) news s

/-- FREE RESULT empties a slot that is TAKEN, not FILLED (R140). -/
theorem fills_freeSlot {s : State} {h : Handle} {r : ResultRecord} (taken : s.slot h = .taken r) :
    Fills [] s (s.setSlot h .free) := by
  refine fills_nil rfl fun k => ?_
  by_cases at_h : k = h
  · rw [at_h, slot_setSlot_self, taken]
    rfl
  · rw [slot_setSlot_of_ne s _ at_h]

/-! ### The queue -/

/-- Handles of listed jobs, whose slots are RESERVED, may join the queue. -/
theorem QueueNamesFilled.fills {s t : State} {hs : List Handle} (q : QueueNamesFilled s) (slots : SlotsFitJobs s)
    (listed : hs.Sublist (s.jobs.map (·.handle))) (f : Fills hs s t) : QueueNamesFilled t := by
  obtain ⟨once, names⟩ := q
  refine ⟨?_, fun k => ?_⟩
  · rw [f.queue, List.nodup_append]
    refine ⟨once, slots.handles.sublist listed, fun a inQueue b joins same => ?_⟩
    subst same
    obtain ⟨j, hj, at_a⟩ := List.mem_map.1 (listed.subset joins)
    have filled := (names a).1 inQueue
    have reserved := (slots.reserved a).2 ⟨j, hj, at_a⟩
    cases x : s.slot a <;> simp [x, Slot.isFilled, Slot.isReserved] at filled reserved
  · rw [f.queue, List.mem_append, f.filled, names, or_comm]

/-- The head leaves the queue as its slot stops being FILLED (R138). -/
theorem QueueNamesFilled.takeHead {s : State} (q : QueueNamesFilled s) {h : Handle} {rest : List Handle}
    (head : s.results.queue = h :: rest) (r : ResultRecord) : QueueNamesFilled (takeHead h rest r s) := by
  obtain ⟨once, names⟩ := q
  rw [head, List.nodup_cons] at once
  refine ⟨once.2, fun k => ?_⟩
  show k ∈ rest ↔ ((s.setSlot h (.taken r)).slot k).isFilled = true
  by_cases at_h : k = h
  · rw [at_h, slot_setSlot_self]
    exact iff_of_false once.1 (by simp [Slot.isFilled])
  · rw [slot_setSlot_of_ne s _ at_h, ← names, head, List.mem_cons, or_iff_right at_h]

theorem queueNamesFilled_of_none {s : State} (queue : s.results.queue = []) (slots : ∀ h, s.slot h = .free) :
    QueueNamesFilled s := by
  refine ⟨by simp [queue], fun h => ?_⟩
  simp [queue, slots, Slot.isFilled]

/-! ### Jobs, attachments and the queue together -/

/-- Jobs, slots and attachments agree, and the queue names the FILLED slots. -/
structure CompletionsAgree (s : State) : Prop where
  work : WorkAgrees s
  queue : QueueNamesFilled s

section
variable {s t : State}

theorem CompletionsAgree.fills (h : CompletionsAgree s) (work : WorkAgrees t) {hs : List Handle}
    (listed : hs.Sublist (s.jobs.map (·.handle))) (f : Fills hs s t) : CompletionsAgree t :=
  ⟨work, h.queue.fills h.work.slots listed f⟩

theorem CompletionsAgree.fillsNone (h : CompletionsAgree s) (work : WorkAgrees t) (f : Fills [] s t) :
    CompletionsAgree t := h.fills work (List.nil_sublist _) f

/-- What leaves the work and the results alone keeps the agreement. -/
theorem CompletionsAgree.same (h : CompletionsAgree s) (work : WorkAgrees t) (results : t.results = s.results) :
    CompletionsAgree t := h.fillsNone work (fills_of_results results)

theorem handle_sublist {j : Job} (hj : j ∈ s.jobs) : [j.handle].Sublist (s.jobs.map (·.handle)) :=
  List.singleton_sublist.2 (List.mem_map_of_mem hj)

theorem handles_sublist (p : Job → Bool) : ((s.jobs.filter p).map (·.handle)).Sublist (s.jobs.map (·.handle)) :=
  List.filter_sublist.map _

theorem CompletionsAgree.laneEnd (h : CompletionsAgree s) (l : Lane) (e : EndReport) {dest : LaneState}
    (off : isMeasuring dest = false) : CompletionsAgree (laneEnd l e dest s) := by
  have work := h.work.laneEnd l e off
  unfold Machine.laneEnd at work ⊢
  split at work
  · exact h.same work (results_leave_detach l dest s)
  · rename_i runs
    obtain ⟨-, -, listed⟩ := laneJob_eq_some runs
    exact h.fills work (handle_sublist listed) (fills_endJob l _ e dest s)

theorem CompletionsAgree.giveBack (h : CompletionsAgree s) (l : Lane) (cause : RequeueCause) {dest : LaneState}
    (off : isMeasuring dest = false) : CompletionsAgree (giveBack l cause dest s) := by
  have work := h.work.giveBack l cause off
  unfold Machine.giveBack at work ⊢
  split at work
  · exact h.same work (results_leave_detach l dest s)
  · rename_i runs
    obtain ⟨-, -, listed⟩ := laneJob_eq_some runs
    split at work
    · exact h.fills work (handle_sublist listed) (fills_endJob l _ _ dest s)
    · exact h.same work (results_leave_detach l dest _)

end

theorem keptByEnds_completionsAgree : KeptByEnds CompletionsAgree where
  steady k h := h.same (keptByEnds_workAgrees.steady k h.work) k.results
  laneEnd l e _ off h := h.laneEnd l e off
  giveBack l cause _ off h := h.giveBack l cause off
  announce i h :=
    h.fills (keptByEnds_workAgrees.announce i h.work) (handles_sublist _) (fills_foldl (fills_endInList _) _ _)
  endChecksOn l h :=
    h.fills (keptByEnds_workAgrees.endChecksOn l h.work) (handles_sublist _) (fills_foldl (fills_endInList _) _ _)
  disturbQuad q h := h.same (keptByEnds_workAgrees.disturbQuad q h.work) (keepsWork_disturbQuad q _).results

/-! ### Events of the sites (R4, R5, R10, R13, R17, R19) -/

section
variable {s : State}

/-- A change of a site record that leaves the attachment keeps the agreement. -/
theorem CompletionsAgree.modSite (h : CompletionsAgree s) (i : Site) {f : SiteRecord → SiteRecord}
    (same : ∀ r, (f r).attachedLane = r.attachedLane) : CompletionsAgree (s.modSite i f) :=
  h.same (h.work.same (sameWork_modSite same)) rfl

theorem CompletionsAgree.announce (h : CompletionsAgree s) (i : Site) : CompletionsAgree (announce i s) :=
  keptByEnds_completionsAgree.announce i h

theorem CompletionsAgree.switchOff (h : CompletionsAgree s) (i : Site) (dest : SiteState) (cause : SwitchCause) :
    CompletionsAgree (switchOff i dest cause s) :=
  keptByEnds_completionsAgree.quadEvent _ _ cause (h.modSite i fun _ => rfl)

theorem results_contactRise (i : Site) (s : State) : (contactRise i s).results = s.results := by
  simp only [contactRise]
  split
  · split
    · split
      · exact ((keepsWork_foldl _ keepsWork_seat _ s).trans (keepsWork_claimTogether _ _ _)).results
      · rfl
    · rfl
  · rfl

theorem results_settleExpiry (i : Site) (s : State) : (settleExpiry i s).results = s.results := by
  simp only [settleExpiry]
  split <;> rfl

theorem CompletionsAgree.contactFall (h : CompletionsAgree s) (i : Site) : CompletionsAgree (contactFall i s) := by
  have fallen : CompletionsAgree (s.modSite i (takeContact false)) := h.modSite i fun _ => rfl
  have vacant := fallen.modSite i (f := fun r => { r with state := .vacant }) fun _ => rfl
  simp only [Machine.contactFall]
  split
  · split
    case h_1 | h_2 => exact fallen
    case h_3 | h_4 | h_5 => exact vacant.announce i
    case h_6 | h_7 => exact (fallen.switchOff i .vacant .contactFall).announce i
  · exact h

theorem CompletionsAgree.supplyFaultTrip (h : CompletionsAgree s) (i : Site) :
    CompletionsAgree (supplyFaultTrip i s) := by
  simp only [Machine.supplyFaultTrip]
  split
  · have tripped := (h.modSite i (f := fun r => { r with faults := min 255 (r.faults + 1) })
      fun _ => rfl).switchOff i .fault .faultTrip
    exact (keptByEnds_completionsAgree.steady (steady_onlyLink (onlyLink_raiseSupplyFault i _) rfl) tripped).announce i
  · exact h

theorem CompletionsAgree.enterSite (h : CompletionsAgree s) (i : Site) (x : SiteState) :
    CompletionsAgree (enterSite i x s) := by
  have moved : CompletionsAgree (s.modSite i fun r => { r with state := x }) := h.modSite i fun _ => rfl
  simp only [Machine.enterSite]
  split
  · exact moved.announce i
  · exact moved

theorem CompletionsAgree.siteMode (h : CompletionsAgree s) (i : Site) (e a : Option Bool) (t : Option Nat) :
    CompletionsAgree (applySiteMode i e a t s).2 := by
  have enabled : CompletionsAgree (setEnable i e s) := by
    simp only [setEnable]
    repeat' split
    all_goals first
      | exact h
      | exact h.enterSite i _
  unfold applySiteMode
  split
  · exact h
  · exact enabled.modSite i fun _ => rfl

end

/-- What touches neither slots nor queue keeps the results; the rest reserves, fills, takes or frees slots, or empties
all. -/
theorem keptByOps_completionsAgree : KeptByOps CompletionsAgree where
  toKeptByEnds := keptByEnds_completionsAgree
  contactRise i h := h.same (keptByOps_workAgrees.contactRise i h.work) (results_contactRise i _)
  contactFall i h := h.contactFall i
  supplyFaultTrip i h := h.supplyFaultTrip i
  settleExpiry i h := h.same (keptByOps_workAgrees.settleExpiry i h.work) (results_settleExpiry i _)
  siteMode i e a t h := h.siteMode i e a t
  claim i seated h := h.same (keptByOps_workAgrees.claim i seated h.work) (keepsWork_claimPower i _).results
  powerOff i _ h := h.switchOff i .seated .powerOff
  withdraw i _ h := h.modSite i fun _ => rfl
  clear i _ h := h.enterSite i _
  pairing e h := h.same (keptByOps_workAgrees.pairing e h.work) rfl
  append batch news taken room fit h :=
    h.fillsNone (keptByOps_workAgrees.append batch news taken room fit h.work) (fills_appendJobs batch news _)
  cancel x h := h.fills (keptByOps_workAgrees.cancel x h.work) (handles_sublist _) (fills_foldl fills_cancelJob _ _)
  takeHead k rest r head record h :=
    ⟨keptByOps_workAgrees.takeHead k rest r head record h.work, h.queue.takeHead head r⟩
  freeSlot k r taken h := h.fillsNone (keptByOps_workAgrees.freeSlot k r taken h.work) (fills_freeSlot taken)
  setPlan p r valid h := h.same (keptByOps_workAgrees.setPlan p r valid h.work) rfl
  setLimits x r valid h := h.same (keptByOps_workAgrees.setLimits x r valid h.work) rfl
  boundary b h := h.same (keptByOps_workAgrees.boundary b h.work) rfl
  setting x v inRange unused h := h.same (keptByOps_workAgrees.setting x v inRange unused h.work) rfl
  restart {s} h := ⟨keptByOps_workAgrees.restart h.work, queueNamesFilled_of_none rfl (slot_issueRestart s)⟩
  reset {s} contact rate :=
    ⟨keptByOps_workAgrees.reset contact rate, queueNamesFilled_of_none rfl (slot_resetTo contact rate s)⟩
  tick contact flt h := h.same (keptByOps_workAgrees.tick contact flt h.work) rfl

/-- Settles O60: jobs, attachments and queue are one predicate, and every operation on the records keeps it. -/
theorem completionQueueKept : Obligations.CompletionQueueKept := by
  unfold Obligations.CompletionQueueKept
  intro s t ⟨slots, attached, queue⟩ e
  obtain ⟨work, queue'⟩ := keptByOps_completionsAgree.kept s t ⟨⟨slots, attached⟩, queue⟩ e
  exact ⟨work.slots, work.attached, queue'⟩

end Sys2Proof.Machine
end

section
/-!
SUPPORT. The verdict over a limit set (R133, R134), raised alerts and ATTN (R137, R183 to R185), and the requests of
the Result Store (R138 to R140).
-/
namespace Sys2Proof.Machine

/-! ### The verdict (R133, R134) -/

/-- An entry fails on a SATURATED value, and else by its comparison (R133). -/
theorem entryFails_iff {e : LimitEntry} {v : Int} {saturated : Bool} : entryFails e (v, saturated) = true ↔
    saturated = true ∨ (e.comparison = 0 ∧ e.hi < v) ∨ (e.comparison = 1 ∧ v < e.lo)
      ∨ (2 ≤ e.comparison ∧ (v < e.lo ∨ e.hi < v)) := by
  obtain atMost | atLeast | within : e.comparison = 0 ∨ e.comparison = 1 ∨ 2 ≤ e.comparison := by omega
  · simp [entryFails, atMost]
  · simp [entryFails, atLeast]
  · have ne0 : e.comparison ≠ 0 := by omega
    have ne1 : e.comparison ≠ 1 := by omega
    simp [entryFails, within, ne0, ne1]

/-- What an entry comes to on a deposit: none where it is skipped, else whether it fails. -/
def outcome (d : Deposit) (e : LimitEntry) : Option Bool := (selectedValue d e.selector).map (entryFails e)

theorem judged_eq (d : Deposit) (entries : List LimitEntry) : judged d entries = entries.map (outcome d) := rfl

theorem outcome_eq_none_iff {d : Deposit} {e : LimitEntry} :
    outcome d e = none ↔ selectedValue d e.selector = none := Option.map_eq_none_iff

theorem outcome_eq_fails_iff {d : Deposit} {e : LimitEntry} : outcome d e = some true ↔
    ∃ v saturated, selectedValue d e.selector = some (v, saturated)
      ∧ (saturated = true ∨ (e.comparison = 0 ∧ e.hi < v) ∨ (e.comparison = 1 ∧ v < e.lo)
          ∨ (2 ≤ e.comparison ∧ (v < e.lo ∨ e.hi < v))) := by
  simp only [outcome, Option.map_eq_some_iff, Prod.exists, entryFails_iff]

theorem skipped_judge (d : Deposit) (entries : List LimitEntry) :
    (judge d entries).skipped = entries.countP fun e => (selectedValue d e.selector).isNone := by
  show (judged d entries).count none = _
  rw [judged_eq, List.count, List.countP_map]
  refine List.countP_congr fun e _ => ?_
  simp [outcome_eq_none_iff]

/-- The entry that decides is the first that fails. -/
theorem deciding_judge (d : Deposit) (entries : List LimitEntry) :
    (judge d entries).deciding = entries.findIdx? fun e => outcome d e == some true := by
  show (judged d entries).findIdx? _ = _
  rw [judged_eq, List.findIdx?_map]
  rfl

theorem judge_of_none {d : Deposit} {entries : List LimitEntry} (h : (judge d entries).deciding = none) :
    (judge d entries).bin = 0 := by
  have e : (judged d entries).findIdx? (· == some true) = none := h
  simp only [judge, e]

theorem judge_of_some {d : Deposit} {entries : List LimitEntry} {k : Nat} {e : LimitEntry}
    (h : (judge d entries).deciding = some k) (at_k : entries[k]? = some e) : (judge d entries).bin = e.bin := by
  have first : (judged d entries).findIdx? (· == some true) = some k := h
  simp [judge, first, at_k]

/-- Settles O31: the skipped entries are counted, and the deciding entry is the first whose outcome is a failure. -/
theorem verdictIsFirstFailure : Obligations.VerdictIsFirstFailure := by
  unfold Obligations.VerdictIsFirstFailure
  intro d entries
  simp only [← outcome_eq_fails_iff]
  refine ⟨skipped_judge d entries, fun none => ?_, fun k e at_k fails first => ?_⟩
  · have deciding : (judge d entries).deciding = Option.none := by
      rw [deciding_judge, List.findIdx?_eq_none_iff]
      simpa using none
    exact ⟨judge_of_none deciding, deciding⟩
  · have deciding : (judge d entries).deciding = some k := by
      obtain ⟨inside, rfl⟩ := List.getElem?_eq_some_iff.1 at_k
      rw [deciding_judge, List.findIdx?_eq_some_iff_getElem]
      refine ⟨inside, by simpa using fails, fun m before => ?_⟩
      simpa using first m entries[m] before (List.getElem?_eq_getElem _)
    exact ⟨judge_of_some deciding at_k, deciding⟩

/-! ### Alerts (R184, R193) -/

/-- The alert of a bit of the flag sets (R193). -/
def alertOfBit : Nat → Alert
  | 0 => .restarted
  | 1 => .reference
  | 2 => .laneFaulted
  | 3 => .supplyFault
  | 4 => .holdExpired
  | _ => .linkError

theorem alertOfBit_bit (a : Alert) : alertOfBit a.bit = a := by cases a <;> rfl

theorem bit_alertOfBit {n : Nat} (h : n < 6) : (alertOfBit n).bit = n := by interval_cases n <;> rfl

theorem bit_lt_six (a : Alert) : a.bit < 6 := by cases a <;> decide

theorem bit_injective : Function.Injective Alert.bit := Function.LeftInverse.injective alertOfBit_bit

/-- Adding one bit to a set sets that bit and keeps the others. -/
theorem getLsbD_or_bit {w : Nat} (x : BitVec w) (i : Nat) {j : Nat} (h : j < w) :
    (x ||| 1#w <<< i).getLsbD j = (x.getLsbD j || decide (i = j)) := by
  rw [← BitVec.twoPow_eq, BitVec.getLsbD_or, BitVec.getLsbD_twoPow]
  by_cases e : i = j
  · subst e; simp [h]
  · simp [e]

theorem alertSet_raiseAlert (a b : Alert) (s : State) : (raiseAlert a s).alertSet b = (s.alertSet b || a == b) := by
  have same : decide (a.bit = b.bit) = (a == b) := by simp [bit_injective.eq_iff, beq_eq_decide]
  rw [← same]
  exact getLsbD_or_bit s.link.alerts.flags a.bit (bit_lt_six b)

/-- A member added to a mask by its number. -/
theorem getLsbD_or_member {n : Nat} (x : BitVec n) (i k : Fin n) :
    (x ||| 1#n <<< i.val).getLsbD k.val = (x.getLsbD k.val || i == k) := by
  have same : decide (i.val = k.val) = (i == k) := by simp [Fin.val_inj, beq_eq_decide]
  rw [getLsbD_or_bit x i.val k.isLt, same]

/-! ### ATTN (R137, R183, R185) -/

theorem ne_zero_iff_exists_bit {w : Nat} {x : BitVec w} : x ≠ 0 ↔ ∃ n, n < w ∧ x.getLsbD n = true := by
  rw [← not_iff_not, not_not]
  simp only [not_exists, not_and, Bool.not_eq_true]
  refine ⟨fun e n _ => by simp [e], fun clear => BitVec.eq_of_getLsbD_eq fun n h => ?_⟩
  rw [clear n h]
  simp

/-- A set flag is enabled exactly when flags and ALERT_MASK share a bit. -/
theorem enabled_iff (s : State) : s.link.alerts.flags &&& s.link.settings.alertMask ≠ 0 ↔
    ∃ a : Alert, s.alertSet a = true ∧ s.link.settings.alertMask.getLsbD a.bit = true := by
  simp only [ne_zero_iff_exists_bit, BitVec.getLsbD_and, Bool.and_eq_true, State.alertSet]
  constructor
  · rintro ⟨n, small, both⟩
    exact ⟨alertOfBit n, by rwa [bit_alertOfBit small]⟩
  · rintro ⟨a, both⟩
    exact ⟨a.bit, bit_lt_six a, both⟩

theorem attn_iff (s : State) : attn s = true ↔ s.pins.resetn = true
    ∧ (s.results.queue ≠ [] ∨ s.link.alerts.flags &&& s.link.settings.alertMask ≠ 0) := by
  simp [attn, completionPending]

/-- Settles O10: one bit is added to the flags, and one to the alert's own mask; ATTN by the bit that flags and ALERT_MASK
share. -/
theorem alertsSetAndShown : Obligations.AlertsSetAndShown := by
  unfold Obligations.AlertsSetAndShown
  refine ⟨fun s a b => ?_, fun s => by rw [attn_iff, enabled_iff]⟩
  have masked (c : Alert) : (raiseAlert c s).alertSet b = (s.alertSet b || b == c) := by
    rw [alertSet_raiseAlert, BEq.comm]
  exact ⟨alertSet_raiseAlert a b s, rfl,
    fun l m => ⟨getLsbD_or_member _ l m, masked .laneFaulted, rfl, getLsbD_or_member _ l m, masked .holdExpired, rfl⟩,
    fun i k => ⟨getLsbD_or_member _ i k, masked .supplyFault, rfl⟩⟩

/-! ### TAKE COMPLETION (R138) -/

theorem beOpt_map {α β : Type} (f : β → List Byte) (g : α → β) (o : Option α) :
    beOpt f (o.map g) = beOpt (fun a => f (g a)) o := by cases o <;> rfl

theorem reqTakeCompletion_nil {s : State} (h : s.results.queue = []) : reqTakeCompletion s = (refuse .noSuch, s) := by
  simp only [reqTakeCompletion, h]

theorem reqTakeCompletion_cons {s : State} {h : Handle} {rest : List Handle} {r : ResultRecord}
    (queue : s.results.queue = h :: rest) (slot : s.slot h = .filled r) : reqTakeCompletion s =
      (okWith (completionBytes h r ++ be8 rest.length), takeHead h rest r s) := by
  simp only [reqTakeCompletion, queue, slot, Slot.record?]

/-- Settles O34: by the queue, empty or with a FILLED head. -/
theorem takeCompletionTakesHead : Obligations.TakeCompletionTakesHead := by
  unfold Obligations.TakeCompletionTakesHead
  refine fun s tag ht => ⟨fun empty => request_answers ht (reqTakeCompletion_nil empty),
    fun h rest r queue slot => ?_⟩
  simp only [beOpt_map]
  exact request_answers ht (reqTakeCompletion_cons queue slot)

/-! ### READ RESULT and FREE RESULT (R139, R140) -/

theorem handleOf?_val (h : Handle) : handleOf? h.val = some h := by simp [handleOf?]
theorem handleOf?_none {n : Nat} (h : 48 ≤ n) : handleOf? n = none := by simp [handleOf?, h]

theorem reqReadResult_bad {n : Nat} (h : 48 ≤ n) (s : State) : reqReadResult n s = (refuse .badField, s) := by
  rw [reqReadResult, handleOf?_none h]

theorem reqReadResult_of_none {h : Handle} {s : State} (none : (s.slot h).record? = none) :
    reqReadResult h.val s = (refuse .noSuch, s) := by
  simp only [reqReadResult, handleOf?_val, none]

theorem reqReadResult_of_some {h : Handle} {s : State} {r : ResultRecord} (record : (s.slot h).record? = some r) :
    reqReadResult h.val s = (okWith (resultBytes h r), s) := by
  simp only [reqReadResult, handleOf?_val, record]

/-- Settles O35: a FREE or RESERVED slot holds no record, a FILLED or TAKEN one holds the record of the answer. -/
theorem readResultReports : Obligations.ReadResultReports := by
  unfold Obligations.ReadResultReports
  refine fun s tag ht => ⟨fun n above => request_answers ht (reqReadResult_bad above _), fun h => ?_⟩
  split <;> rename_i e
  case h_1 | h_2 => exact request_answers ht (reqReadResult_of_none (congrArg Slot.record? e))
  case h_3 | h_4 => exact request_answers ht (reqReadResult_of_some (congrArg Slot.record? e))

theorem reqFreeResult_bad {n : Nat} (h : 48 ≤ n) (s : State) : reqFreeResult n s = (refuse .badField, s) := by
  rw [reqFreeResult, handleOf?_none h]

theorem reqFreeResult_of_taken {h : Handle} {s : State} {r : ResultRecord} (taken : s.slot h = .taken r) :
    reqFreeResult h.val s = (okWith [], s.setSlot h .free) := by
  simp only [reqFreeResult, handleOf?_val, taken]

theorem reqFreeResult_of_filled {h : Handle} {s : State} {r : ResultRecord} (filled : s.slot h = .filled r) :
    reqFreeResult h.val s = (refuse .state, s) := by
  simp only [reqFreeResult, handleOf?_val, filled]

theorem reqFreeResult_of_none {h : Handle} {s : State} (none : s.slot h = .free ∨ s.slot h = .reserved) :
    reqFreeResult h.val s = (refuse .noSuch, s) := by
  rcases none with e | e <;> simp only [reqFreeResult, handleOf?_val, e]

/-- Settles O36: the answer by the state of the slot. -/
theorem freeResultBySlot : Obligations.FreeResultBySlot := by
  unfold Obligations.FreeResultBySlot
  refine fun s tag ht => ⟨fun n above => request_answers ht (reqFreeResult_bad above _), fun h => ?_⟩
  split <;> rename_i e
  case h_1 => exact request_answers ht (reqFreeResult_of_taken e)
  case h_2 => exact request_answers ht (reqFreeResult_of_filled e)
  case h_3 => exact request_answers ht (reqFreeResult_of_none (.inl e))
  case h_4 => exact request_answers ht (reqFreeResult_of_none (.inr e))

end Sys2Proof.Machine
end

section
/-!
SUPPORT. What the Link Port refuses by itself: BUSY in the restart busy window and BAD_KIND (R179 steps 1 to 3, R182).
-/
namespace Sys2Proof.Machine

/-- A request command is its owner's request, taken with SETUP at the level that its frame meets. -/
theorem exec_of_isRequest {i : Instr} (req : isRequest i = true) (s : State) :
    exec i s = taken (setupAt i s) i (handle i) s := by
  cases i <;> first
    | exact absurd req Bool.false_ne_true
    | rfl

theorem ne_nextKind_of_not_isRequestKind {kind : Byte} (h : isRequestKind kind = false) : kind ≠ nextKind := by
  rintro rfl
  exact absurd h (by decide)

/-- Only the body of NEXT begins with the kind of NEXT. -/
theorem head?_requestBody_eq_nextKind_iff {i : Instr} (wf : WellFormed i = true) :
    (requestBody i).head? = some nextKind ↔ i = .nextBlock := by
  cases i
  case badKindRequest kind rest =>
    have noKind : isRequestKind kind = false := by
      simp only [WellFormed, Bool.and_eq_true, Bool.not_eq_true'] at wf
      exact wf.1
    simp [requestBody, ne_nextKind_of_not_isRequestKind noKind]
  all_goals simp [requestBody, nextKind]

theorem endFollow_requestBody {i : Instr} (wf : WellFormed i = true) (s : State) :
    endFollow (requestBody i) s = if i = .nextBlock then s else setFollow none s := by
  simp only [endFollow, head?_requestBody_eq_nextKind_iff wf]

theorem putReply_eq_replied (body : List Byte) (r : Response) (s : State) :
    putReply body r s = replied (replyKind body r.status) (bodyTag body) r.status r.data s := rfl

/-- A request that the part listens to in the restart busy window is answered BUSY. -/
theorem exec_busy {i : Instr} {s : State} (req : isRequest i = true) (hears : listening s = true)
    (busy : 0 < s.link.busy.left) : exec i s = .next (replied ((requestBody i).headD 0 ||| 0x80)
      (bodyTag (requestBody i)) .busy (.single []) (endFollow (requestBody i) (setSetup (setupAt i s) s))) := by
  rw [exec_of_isRequest req, taken, request_of_listening hears, takeBody_of_busy (by exact busy)]
  rfl

/-- A request outside that window is answered by its owner. -/
theorem exec_of_takes {i : Instr} {s t : State} {x : Status} {data : ReplyData} (req : isRequest i = true)
    (ht : Takes s)
    (ha : handle i (endFollow (requestBody i) (setSetup (setupAt i s) s)) = (⟨x, data⟩, t)) :
    exec i s = .next (replied (replyKind (requestBody i) x) (bodyTag (requestBody i)) x data t) := by
  rw [exec_of_isRequest req, taken, request_of_listening ht.1, takeBody_of_notBusy (by exact ht.2), ha,
    putReply_eq_replied]

theorem bodyTag_of_ne {kind : Byte} (ne : kind ≠ nextKind) (rest : List Byte) :
    bodyTag (kind :: rest) = rest.headD 0 := by
  cases rest with
  | nil => rfl
  | cons tag fields => exact if_neg ne

theorem exec_badKind {kind : Byte} {s : State} (ht : Takes s) (ne : kind ≠ nextKind) (rest : List Byte) :
    exec (.badKindRequest kind rest) s = .next (answered 0xFE (rest.headD 0) .badKind [] s) := by
  have ended : endFollow (kind :: rest) s = setFollow none s := if_neg (by simpa using ne)
  rw [← bodyTag_of_ne ne rest, answered, ← ended]
  exact exec_of_takes (i := .badKindRequest kind rest) rfl ht rfl

/-- Settles O8: in the window no owner is asked; outside it a body of no request kind is refused before any is. -/
theorem linkRefusals : Obligations.LinkRefusals := by
  unfold Obligations.LinkRefusals
  refine ⟨fun i s wf req hears busy => ?_, fun s kind rest ht wf => ?_⟩
  · rw [exec_busy req hears busy, endFollow_requestBody wf]
  · simp only [WellFormed, Bool.and_eq_true, Bool.not_eq_true'] at wf
    exact exec_badKind ht (ne_nextKind_of_not_isRequestKind wf.1) rest

end Sys2Proof.Machine
end

section
/-!
SUPPORT. Snapshots (R145 to R149), the windows and blocks of raw samples (R155 to R158), and the release of a hold
(R153).
-/
namespace Sys2Proof.Machine

/-! ### RELEASE LANE (R153) -/

theorem reqReleaseLane_bad {n : Nat} (h : 4 ≤ n) (s : State) : reqReleaseLane n s = (refuse .badField, s) := by
  rw [reqReleaseLane, laneOf?_none h]

theorem reqReleaseLane_held {l : Lane} {s : State} (held : (s.lane l).hold = true) :
    reqReleaseLane l.val s = (okWith [0], s.modLane l endHold) := by
  simp only [reqReleaseLane, laneOf?_val, if_pos held]
  rfl

theorem reqReleaseLane_notHeld {l : Lane} {s : State} (free : (s.lane l).hold = false) :
    reqReleaseLane l.val s = (okWith [1], s) := by
  simp only [reqReleaseLane, laneOf?_val, free, Bool.false_eq_true, if_false]
  rfl

/-- Settles O39: by the hold flag of the lane. -/
theorem releaseLaneEndsHold : Obligations.ReleaseLaneEndsHold := by
  unfold Obligations.ReleaseLaneEndsHold
  exact fun s tag ht => ⟨fun n above => request_answers ht (reqReleaseLane_bad above _),
    fun l => ⟨fun held => request_answers ht (reqReleaseLane_held held),
      fun free => request_answers ht (reqReleaseLane_notHeld free)⟩⟩

/-! ### The snapshot record (R144, R145) -/

theorem noData_snapshotOf (s : State) (l : Lane) (live : Bool) :
    (snapshotOf s l live).noData = true ↔ (s.lane l).state ≠ .capturing := bne_iff_ne

/-- The record depends on the lane's context and the tick alone. -/
theorem snapshotOf_congr {s t : State} {l : Lane} (lane : t.lane l = s.lane l) (now : t.now = s.now) (live : Bool) :
    snapshotOf t l live = snapshotOf s l live := by
  simp only [snapshotOf, lane, now]

theorem snapshotJob_of_attached {c : LaneContext} {id : Nat} (h : c.run.jobId = some id) :
    snapshotJob c = some id := by
  rw [snapshotJob, h]

theorem snapshotJob_of_none {c : LaneContext} (h : c.run.jobId = none) : snapshotJob c = c.ring.map (·.jobId) := by
  rw [snapshotJob, h]

theorem runningFigure_of_noSample {c : LaneContext} (h : c.captured = 0) (f : Accumulators → Nat → Int) :
    runningFigure f c = none := if_pos h

theorem runningFigure_of_sample {c : LaneContext} {a : Accumulators} (some_sample : 1 ≤ c.captured)
    (acc : c.acc = some a) (f : Accumulators → Nat → Int) : runningFigure f c = some (f a c.captured) := by
  rw [runningFigure, if_neg (by omega), acc, Option.map_some]

section
variable {s : State} {l : Lane}

theorem snapshotOf_noSample (h : (s.lane l).captured = 0) (live : Bool) :
    (snapshotOf s l live).span = none ∧ (snapshotOf s l live).meanDev = none
      ∧ (snapshotOf s l live).periodRms = none :=
  ⟨runningFigure_of_noSample h fun a _ => runningSpan a, runningFigure_of_noSample h runningMean,
    runningFigure_of_noSample h runningRms⟩

theorem snapshotOf_sample {a : Accumulators} (h : 1 ≤ (s.lane l).captured) (acc : (s.lane l).acc = some a)
    (live : Bool) : (snapshotOf s l live).span = some (a.maxError - a.minError)
      ∧ (snapshotOf s l live).meanDev = some (runningMean a (s.lane l).captured)
      ∧ (snapshotOf s l live).periodRms = some (runningRms a (s.lane l).captured) :=
  ⟨runningFigure_of_sample h acc fun a _ => runningSpan a, runningFigure_of_sample h acc runningMean,
    runningFigure_of_sample h acc runningRms⟩

end

/-! ### SNAPSHOT (R146, R147) -/

/-- A lane at SNAPSHOT: an empty latch takes a record formed now. -/
theorem lane_latchLane (s : State) (m l : Lane) : (latchLane s m).lane l =
    if l = m ∧ (s.lane l).latch = none then { s.lane l with latch := some (snapshotOf s l false) } else s.lane l := by
  unfold latchLane
  split <;> rename_i full
  · have stays : ¬ (l = m ∧ (s.lane l).latch = none) := by
      rintro ⟨rfl, empty⟩
      simp [empty] at full
    rw [if_neg stays]
  · rw [Bool.not_eq_true, Option.isSome_eq_false_iff, Option.isNone_iff_eq_none] at full
    rw [lane_modLane]
    by_cases e : l = m
    · subst e
      rw [if_pos rfl, if_pos ⟨rfl, full⟩]
    · rw [if_neg e, if_neg fun both => e both.1]

theorem onlyLanes_latchLane (s : State) (l : Lane) : OnlyLanes s (latchLane s l) := by
  unfold latchLane
  split <;> rfl

theorem now_latchLane (s : State) (l : Lane) : (latchLane s l).now = s.now := by
  rw [onlyLanes_latchLane s l]
  rfl

/-- A latch filled for one lane of the set stays as the others are reached. -/
theorem lane_foldl_latchLane (ls : List Lane) (s : State) (l : Lane) : (ls.foldl latchLane s).lane l =
    if l ∈ ls ∧ (s.lane l).latch = none then { s.lane l with latch := some (snapshotOf s l false) }
    else s.lane l := by
  induction ls generalizing s with
  | nil => simp
  | cons m rest ih =>
    rw [List.foldl_cons, ih]
    have reached := lane_latchLane s m l
    by_cases now : l = m ∧ (s.lane l).latch = none
    · rw [if_pos now] at reached
      have listed : l ∈ m :: rest := now.1 ▸ List.mem_cons_self
      rw [reached, if_neg (by simp), if_pos ⟨listed, now.2⟩]
    · rw [if_neg now] at reached
      have same : (l ∈ m :: rest ∧ (s.lane l).latch = none) ↔ (l ∈ rest ∧ (s.lane l).latch = none) := by
        rw [List.mem_cons, or_and_right, or_iff_right now]
      rw [snapshotOf_congr reached (now_latchLane s m)]
      simp only [reached, same]

theorem latchLane_setFollow (f : Option Follow) (s : State) (l : Lane) :
    latchLane (setFollow f s) l = setFollow f (latchLane s l) := by
  unfold latchLane
  split <;> rename_i full
  · rw [if_pos (show (s.lane l).latch.isSome = true from full)]
  · rw [if_neg (show ¬ (s.lane l).latch.isSome = true from full)]
    rfl

theorem foldl_latchLane_setFollow (ls : List Lane) (f : Option Follow) (s : State) :
    ls.foldl latchLane (setFollow f s) = setFollow f (ls.foldl latchLane s) :=
  List.foldl_hom (setFollow f) fun s l => latchLane_setFollow f s l

/-- A lane set with a lane in it lists a lane. -/
theorem lanesIn?_ne_nil {lanes : BitVec 8} {ls : List Lane} (h : lanesIn? lanes = some ls) (ne : lanes ≠ 0) :
    ls ≠ [] := by
  unfold lanesIn? at h
  split at h
  · next low =>
    obtain ⟨n, -, bit⟩ := ne_zero_iff_exists_bit.1 ne
    have small : n < 4 := by
      by_contra above
      have power : 2 ^ 4 ≤ 2 ^ n := Nat.pow_le_pow_right Nat.two_pos (not_lt.1 above)
      have clear : lanes.getLsbD n = false := Nat.testBit_lt_two_pow (low.trans_le power)
      exact absurd (bit.symm.trans clear) (by decide)
    rw [← Option.some.inj h]
    exact List.ne_nil_of_mem (List.mem_filter.2 ⟨List.mem_finRange ⟨n, small⟩, bit⟩)
  · cases h

theorem reqSnapshot_bad {lanes : BitVec 8} (h : lanes = 0 ∨ 16 ≤ lanes.toNat) (s : State) :
    reqSnapshot lanes s = (refuse .badField, s) := by
  rcases h with rfl | high
  · rfl
  · rw [reqSnapshot, lanesIn?, if_neg (by omega)]

theorem reqSnapshot_val {lanes : BitVec 8} {ls : List Lane} (h : lanesIn? lanes = some ls) (ne : lanes ≠ 0)
    (s : State) : reqSnapshot lanes s =
      (okWith (beList (fun l => beLane l ++ be8 (snapshotOutcome (s.lane l))) ls), ls.foldl latchLane s) := by
  simp [reqSnapshot, h, lanesIn?_ne_nil h ne]

theorem exec_snapshot {s : State} {lanes : BitVec 8} {ls : List Lane} (ht : Takes s)
    (h : lanesIn? lanes = some ls) (ne : lanes ≠ 0) (tag : Byte) : exec (.snapshot tag lanes) s = .next
      (answered 0xA8 tag .ok (beList (fun l => beLane l ++ be8 (snapshotOutcome (s.lane l))) ls)
        (ls.foldl latchLane s)) := by
  refine request_answers ht ((reqSnapshot_val h ne _).trans ?_)
  rw [foldl_latchLane_setFollow]
  rfl

/-! ### READ SNAPSHOT (R149) -/

theorem reqReadSnapshot_bad {n : Nat} (h : 4 ≤ n) (s : State) : reqReadSnapshot n s = (refuse .badField, s) := by
  rw [reqReadSnapshot, laneOf?_none h]

theorem reqReadSnapshot_full {l : Lane} {s : State} {r : SnapshotRecord} (full : (s.lane l).latch = some r) :
    reqReadSnapshot l.val s = (okWith (snapshotBytes r), s.modLane l fun c => { c with latch := none }) := by
  simp only [reqReadSnapshot, laneOf?_val, full]

theorem reqReadSnapshot_empty {l : Lane} {s : State} (empty : (s.lane l).latch = none) :
    reqReadSnapshot l.val s = (okWith (snapshotBytes (snapshotOf s l true)), s) := by
  simp only [reqReadSnapshot, laneOf?_val, empty]

/-- Settles O37: SNAPSHOT by its fold over the lanes of the set, READ SNAPSHOT by the latch, and the fields of the
record that both form. -/
theorem snapshotsLatchAndRead : Obligations.SnapshotsLatchAndRead := by
  unfold Obligations.SnapshotsLatchAndRead
  refine ⟨fun s tag lanes ht => ⟨fun bad => request_answers ht (reqSnapshot_bad bad _), fun ls h ne => ?_⟩,
    fun s tag ht => ⟨fun n above => request_answers ht (reqReadSnapshot_bad above _), fun l => ⟨fun r full => ?_,
      fun empty => ?_⟩⟩⟩
  · exact ⟨ls.foldl latchLane s, exec_snapshot ht h ne tag, lane_foldl_latchLane ls s,
      fun l => ⟨rfl, rfl, noData_snapshotOf s l false⟩, onlyLanes_foldl onlyLanes_latchLane ls s⟩
  · exact request_answers ht (reqReadSnapshot_full full)
  · exact ⟨snapshotOf s l true, request_answers ht (reqReadSnapshot_empty empty), rfl, rfl,
      noData_snapshotOf s l true, rfl, rfl, rfl, fun _ => snapshotJob_of_attached, snapshotJob_of_none,
      fun zero => snapshotOf_noSample zero true, fun a one acc => snapshotOf_sample one acc true⟩

/-! ### READ SAMPLES (R155, R156) -/

theorem ringHolds_iff {r : RingContent} {n : Nat} :
    r.holds n = true ↔ r.first ≤ n ∧ n < r.first + r.samples.length := by
  simp only [RingContent.holds, Bool.and_eq_true, decide_eq_true_eq]

/-- The window sizes (R155). -/
def WindowSize (n : Nat) : Prop := n = 64 ∨ n = 128 ∨ n = 256 ∨ n = 512

theorem windowOf?_of_windowSize {n : Nat} (h : WindowSize n) : windowOf? n = some n := if_pos h
theorem windowOf?_none {n : Nat} (h : ¬ WindowSize n) : windowOf? n = none := if_neg h

theorem flagOf?_of_le_one {n : Nat} (h : n ≤ 1) : flagOf? n = some (decide (n = 1)) := by
  interval_cases n <;> rfl

theorem flagOf?_none {n : Nat} (h : ¬ n ≤ 1) : flagOf? n = none := by
  rw [flagOf?, if_neg (by omega), if_neg (by omega)]

theorem reqReadSamples_bad {lane start size follow : Nat} (h : ¬ (lane ≤ 3 ∧ WindowSize size ∧ follow ≤ 1))
    (s : State) : reqReadSamples lane start size follow s = (refuse .badField, s) := by
  unfold reqReadSamples
  split
  · next l z f laneRead sizeRead followRead =>
    refine absurd ⟨?_, ?_, ?_⟩ h
    · by_contra above
      simp [laneOf?_none (show 4 ≤ lane by omega)] at laneRead
    · by_contra other
      simp [windowOf?_none other] at sizeRead
    · by_contra above
      simp [flagOf?_none above] at followRead
  · rfl

section
variable {s : State} {l : Lane} {start size follow : Nat}

theorem reqReadSamples_measuring (small : start ≤ 65535) (hz : WindowSize size) (hf : follow ≤ 1)
    (measuring : isMeasuring (s.lane l).state = true) :
    reqReadSamples l.val start size follow s = (refuse .busy, s) := by
  simp only [reqReadSamples, laneOf?_val, windowOf?_of_windowSize hz, flagOf?_of_le_one hf, if_neg (not_lt.2 small),
    if_pos measuring]

theorem reqReadSamples_noRing (small : start ≤ 65535) (hz : WindowSize size) (hf : follow ≤ 1)
    (still : isMeasuring (s.lane l).state = false) (noRing : (s.lane l).ring = none) :
    reqReadSamples l.val start size follow s = (refuse .noSuch, s) := by
  simp only [reqReadSamples, laneOf?_val, windowOf?_of_windowSize hz, flagOf?_of_le_one hf, if_neg (not_lt.2 small),
    still, Bool.false_eq_true, if_false, noRing]

theorem reqReadSamples_ring {r : RingContent} (small : start ≤ 65535) (hz : WindowSize size) (hf : follow ≤ 1)
    (still : isMeasuring (s.lane l).state = false) (ring : (s.lane l).ring = some r) :
    reqReadSamples l.val start size follow s = readRing l r start size (decide (follow = 1)) s := by
  simp only [reqReadSamples, laneOf?_val, windowOf?_of_windowSize hz, flagOf?_of_le_one hf, if_neg (not_lt.2 small),
    still, Bool.false_eq_true, if_false, ring]

end

theorem readRing_outside {r : RingContent} {start : Nat} (h : start < r.first ∨ r.first + r.samples.length ≤ start)
    (l : Lane) (size : Nat) (follow : Bool) (s : State) :
    readRing l r start size follow s = (refuse .badField, s) := by
  have out : r.holds start = false := by
    rw [Bool.eq_false_iff, ne_eq, ringHolds_iff]
    omega
  simp [readRing, out]

/-- The first block of a window, and the follow context that reads on in it. -/
theorem readRing_inside {r : RingContent} {start : Nat} (low : r.first ≤ start)
    (high : start < r.first + r.samples.length) (l : Lane) (size follow : Nat) (s : State) :
    readRing l r start size (decide (follow = 1)) s =
      (okWith (blockBytes l r (windowBase r start size) (windowEnd r (windowBase r start size) size) size start),
        setFollow (if follow = 1 then some ⟨l, windowBase r start size,
          windowEnd r (windowBase r start size) size, size,
          nextIndexAfter (windowBase r start size) (windowEnd r (windowBase r start size) size) start, false⟩
          else none) s) := by
  simp [readRing, ringHolds_iff.2 ⟨low, high⟩]

/-! ### NEXT (R157) -/

/-- NEXT, taken, leaves the follow context to its owner, and its reply carries the tag 0. -/
theorem exec_nextBlock {s t : State} {x : Status} {data : ReplyData} (ht : Takes s)
    (ha : reqNext s = (⟨x, data⟩, t)) (hx : x ≠ .badKind := by decide) :
    exec .nextBlock s = .next (replied 0xAF 0 x data t) := by
  have kind : replyKind (requestBody .nextBlock) x = 0xAF := if_neg hx
  rw [← kind]
  exact exec_of_takes rfl ht ha

theorem reqNext_noContext {s : State} (h : s.link.follow = none) : reqNext s = (refuse .state, s) := by
  rw [reqNext, h]

theorem reqNext_stale {s : State} {f : Follow} (h : s.link.follow = some f) (stale : f.stale = true) :
    reqNext s = (refuse .noSuch, setFollow none s) := by
  simp only [reqNext, h, stale]

theorem reqNext_block {s : State} {f : Follow} {r : RingContent} (h : s.link.follow = some f)
    (fresh : f.stale = false) (ring : (s.lane f.lane).ring = some r) : reqNext s =
      (okWith (blockBytes f.lane r f.base f.last f.size f.nextIndex),
        setFollow (some { f with nextIndex := nextIndexAfter f.base f.last f.nextIndex }) s) := by
  simp only [reqNext, h, fresh, ring]

/-- Settles O38: the checks of READ SAMPLES in their order and its window on a ring; NEXT by the follow context. -/
theorem samplesReadInWindows : Obligations.SamplesReadInWindows := by
  unfold Obligations.SamplesReadInWindows
  refine ⟨fun s tag lane start size follow ht small => ?_, fun s ht => ⟨fun empty => ?_,
    fun f context => ⟨fun stale => ?_, fun r fresh ring => ?_⟩⟩⟩
  · refine ⟨fun bad => request_answers ht (reqReadSamples_bad bad _), fun hz hf => ?_⟩
    rintro l rfl
    refine ⟨fun measuring => request_answers ht (reqReadSamples_measuring small hz hf measuring),
      fun still noRing => request_answers ht (reqReadSamples_noRing small hz hf still noRing),
      fun still r ring => ?_⟩
    have answer := reqReadSamples_ring (s := setFollow none s) small hz hf still ring
    refine ⟨fun outside => ?_, fun low high => ?_⟩
    · exact request_answers ht (answer.trans (readRing_outside outside _ _ _ _))
    · exact request_answers ht (answer.trans (readRing_inside low high _ _ _ _))
  · exact exec_nextBlock ht (reqNext_noContext empty)
  · exact exec_nextBlock ht (reqNext_stale context stale)
  · exact exec_nextBlock ht (reqNext_block context fresh ring)

end Sys2Proof.Machine
end

section
/-!
SUPPORT. A step, the receiver byte by byte, and the requests READ ALERTS and GET CONFIG (R174 to R178, R186, R189; logs 1
and 11).
-/
namespace Sys2Proof.Machine

/-- Settles O1: the queue's cons case of `step`. -/
theorem stepRunsFrontCommand : Obligations.StepRunsFrontCommand := by
  unfold Obligations.StepRunsFrontCommand
  exact fun _ _ _ => rfl

/-! ### READ ALERTS and GET CONFIG (R186, R189) -/

/-- Settles O11: the owner's answer on the state with the follow context ended. -/
theorem readAlertsReportsAndClears : Obligations.ReadAlertsReportsAndClears := by
  unfold Obligations.ReadAlertsReportsAndClears
  exact fun s tag ht => request_answers ht (act := reqReadAlerts) rfl

theorem settingOf?_none {n : Nat} (h : 8 ≤ n) : settingOf? n = none := by
  unfold settingOf?
  split <;> first | omega | rfl

theorem reqGetConfig_unknown {n : Nat} (h : 8 ≤ n) (s : State) : reqGetConfig n s = (refuse .badField, s) := by
  rw [reqGetConfig, settingOf?_none h]

theorem reqGetConfig_code (x : Setting) (s : State) :
    reqGetConfig x.code s = (okWith (be8 x.code ++ be32 (s.settings.get x)), s) := by
  rw [reqGetConfig, settingOf?_code]
  rfl

/-- Settles O41: by the code, above 7 or of one of the eight settings. -/
theorem getConfigReports : Obligations.GetConfigReports := by
  unfold Obligations.GetConfigReports
  intro s tag ht
  have held (x : Setting) : exec (.getConfig tag x.code) s =
      .next (answered 0xBD tag .ok (be8 x.code ++ be32 (s.link.settings.get x)) s) :=
    request_answers ht (reqGetConfig_code x (setFollow none s))
  exact ⟨fun n h => request_answers ht (reqGetConfig_unknown h _), held .calPeriod, held .quietWindow, held .debounce,
    held .holdLimit, held .floorGood, held .floorMarginal, held .requireChecked, held .alertMask⟩

/-! ### The receiver (R174 to R178) -/

/-- A byte on RXD of the running part is taken with SETUP as sampled at it. -/
theorem exec_receiveByte {s : State} (running : s.pins.resetn = true) (b : Byte) (level : Bool) :
    exec (.receiveByte b level) s = .next (acceptByte b (setSetup level s)) :=
  congrArg Host.Outcome.next (if_pos running)

theorem lengthOk_iff {b : Byte} : lengthOk b = true ↔ 1 ≤ b.toNat ∧ b.toNat ≤ 240 := by
  rw [lengthOk, Bool.and_eq_true, decide_eq_true_eq, decide_eq_true_eq]
  rfl

theorem lengthOk_false {b : Byte} (h : b.toNat = 0 ∨ 241 ≤ b.toNat) : lengthOk b = false := by
  rw [Bool.eq_false_iff, ne_eq, lengthOk_iff]
  omega

section
variable {s : State} {b : Byte}

theorem acceptByte_noSync (h : s.link.receiver = .hunt) (other : b ≠ syncByte) : acceptByte b s = s := by
  simp only [acceptByte, h, if_neg other]

theorem acceptByte_sync (h : s.link.receiver = .hunt) (quiet : s.link.reply = none) :
    acceptByte syncByte s = receive .length s := by
  simp only [acceptByte, h, quiet, Option.isSome_none, Bool.false_eq_true, if_true, if_false]

/-- A frame that begins while a reply is pending is swallowed (R178). -/
theorem acceptByte_sync_pending (h : s.link.receiver = .hunt) (pending : s.link.reply ≠ none) :
    acceptByte syncByte s = raiseAlert .linkError (receive (.swallow .length) s) := by
  simp only [acceptByte, h, Option.isSome_iff_ne_none.2 pending, if_true]

theorem acceptByte_length (h : s.link.receiver = .length) :
    acceptByte b s = receive (if lengthOk b then .body b.toNat [] else .drain) s := by
  simp only [acceptByte, h]

theorem acceptByte_body {n : Nat} {got : List Byte} (h : s.link.receiver = .body n got) : acceptByte b s =
    receive (if n ≤ got.length + 1 then .check (got ++ [b]) else .body n (got ++ [b])) s := by
  simp only [acceptByte, h]

theorem acceptByte_check {body : List Byte} (h : s.link.receiver = .check body) :
    acceptByte b s = checkByte body b s := by
  simp only [acceptByte, h]

theorem acceptByte_drain (h : s.link.receiver = .drain) : acceptByte b s = receive .drain s := by
  simp only [acceptByte, h]

theorem acceptByte_swallow {x : Swallow} (h : s.link.receiver = .swallow x) :
    acceptByte b s = swallowByte x b s := by
  simp only [acceptByte, h]

end

/-- Settles O9: a byte by the receiver state in which it comes, and the expiry of the gap countdown by that state. -/
theorem receiverTakesBytes : Obligations.ReceiverTakesBytes := by
  unfold Obligations.ReceiverTakesBytes
  refine ⟨fun s b level running => ?_, fun s running due => ?_⟩
  · simp only [exec_receiveByte running]
    have state : (setSetup level s).link.receiver = s.link.receiver := rfl
    split <;> rename_i e <;> rw [e] at state
    case h_1 =>
      refine ⟨fun other => ?_, fun sync quiet => ?_, fun sync pending => ?_⟩
      · rw [acceptByte_noSync state other]
      · rw [show b = syncByte from sync, acceptByte_sync state quiet]
        rfl
      · rw [show b = syncByte from sync, acceptByte_sync_pending state pending]
        rfl
    case h_2 =>
      rw [acceptByte_length state]
      exact ⟨fun good => by rw [lengthOk_iff.2 good]; rfl, fun bad => by rw [lengthOk_false bad]; rfl⟩
    case h_3 n got =>
      rw [acceptByte_body state]
      exact ⟨fun more => by rw [if_neg (by omega)]; rfl, fun last => by rw [if_pos (by omega)]; rfl⟩
    case h_4 body =>
      intro wrong
      rw [acceptByte_check state, checkByte, if_neg wrong]
      rfl
    case h_5 =>
      rw [acceptByte_drain state]
      rfl
    case h_6 =>
      rw [acceptByte_swallow state, swallowByte]
      exact ⟨fun good => by rw [lengthOk_iff.2 good]; rfl, fun bad => by rw [lengthOk_false bad]; rfl⟩
    case h_7 n =>
      rw [acceptByte_swallow state, swallowByte]
      exact ⟨fun more => by rw [if_neg (by omega)]; rfl, fun last => by rw [if_pos (by omega)]; rfl⟩
    case h_8 =>
      rw [acceptByte_swallow state]
      rfl
  · have row : exec .gapExpiry s = .next (gapExpiry s) := occurs_running running
    simp only [row, gapExpiry, if_pos due]
    split <;> rfl

end Sys2Proof.Machine
end

section
/-!
SUPPORT. Requests read back from their bodies (R179, R192, R194, R195).
-/
namespace Sys2Proof

/-! ### Reading a body to its end -/

theorem run_ended : ended.run [] = .ok ((), []) := rfl

/-- A body whose fields read to their end into a request is that request (R179 step 4). -/
theorem readBody_of_run {setup : Bool} {kind tag : Byte} {fields : List Byte} {i : Instr}
    (run : (requestFields setup kind tag).run (fields ++ []) = .ok (i, []))
    (known : isRequestKind kind = true := by decide) (ne : kind ≠ nextKind := by decide) :
    readBody setup (kind :: tag :: fields) = .ok i := by
  rw [List.append_nil] at run
  simp only [readBody, known, Bool.not_true, Bool.false_eq_true, if_false, if_neg ne, run]

/-- A request of its tag alone. -/
theorem readBody_bare {setup : Bool} {kind tag : Byte} {i : Instr}
    (known : isRequestKind kind = true := by decide) (ne : kind ≠ nextKind := by decide)
    (reader : requestFields setup kind tag = (do ended; return i) := by rfl) :
    readBody setup [kind, tag] = .ok i :=
  readBody_of_run (by rw [reader]; rfl) known ne

/-- A request of one field. -/
theorem readBody_one {α : Type} {setup : Bool} {kind tag : Byte} {field : List Byte} {p : Reader α} {a : α}
    {f : α → Instr} (run : ∀ rest, p.run (field ++ rest) = .ok (a, rest))
    (known : isRequestKind kind = true := by decide) (ne : kind ≠ nextKind := by decide)
    (reader : requestFields setup kind tag = (do let a ← p; ended; return f a) := by rfl) :
    readBody setup (kind :: tag :: field) = .ok (f a) :=
  readBody_of_run (by simp only [reader, run_bind, run, run_ended, run_return]) known ne

/-- A request of two fields. -/
theorem readBody_two {α β : Type} {setup : Bool} {kind tag : Byte} {first second : List Byte} {p : Reader α}
    {q : Reader β} {a : α} {b : β} {f : α → β → Instr} (run : ∀ rest, p.run (first ++ rest) = .ok (a, rest))
    (run' : ∀ rest, q.run (second ++ rest) = .ok (b, rest))
    (known : isRequestKind kind = true := by decide) (ne : kind ≠ nextKind := by decide)
    (reader : requestFields setup kind tag = (do let a ← p; let b ← q; ended; return f a b) := by rfl) :
    readBody setup (kind :: tag :: (first ++ second)) = .ok (f a b) :=
  readBody_of_run (by simp only [reader, List.append_assoc, run_bind, run, run', run_ended, run_return]) known ne

theorem siteSet_be16 (m : BitVec 16) (rest : List Byte) : siteSet.run (be16 m.toNat ++ rest) = .ok (m, rest) := by
  simp only [siteSet, run_bind, u16_be16 m.isLt, run_return, BitVec.ofNat_toNat, BitVec.setWidth_eq]

theorem opt_u8 {o : Option Nat} (h : fitsOpt fits8 o = true) (rest : List Byte) :
    (opt u8).run (beOpt be8 o ++ rest) = .ok (o, rest) := by
  refine opt_beOpt (fun n held => ?_) rest
  rw [Option.mem_def.1 held] at h
  exact u8_be8 (of_decide_eq_true h)

theorem opt_u16 {o : Option Nat} (h : fitsOpt fits16 o = true) (rest : List Byte) :
    (opt u16).run (beOpt be16 o ++ rest) = .ok (o, rest) := by
  refine opt_beOpt (fun n held => ?_) rest
  rw [Option.mem_def.1 held] at h
  exact u16_be16 (of_decide_eq_true h)

theorem counted_limitEntry {l : List LimitEntry} (few : l.length ≤ 21) (fit : l.all LimitEntry.fits = true)
    (rest : List Byte) : (counted limitEntry).run (beList LimitEntry.bytes l ++ rest) = .ok (l, rest) :=
  counted_beList (by omega) (fun e he => limitEntry_bytes (List.all_eq_true.1 fit e he)) rest

/-! ### The requests of an action or of four fields -/

section
variable (setup : Bool) (tag : Byte)

theorem readBody_siteMode {site : Nat} {enable autopower settle : Option Nat}
    (wf : WellFormed (.siteMode tag site enable autopower settle) = true) :
    readBody setup (requestBody (.siteMode tag site enable autopower settle)) =
      .ok (.siteMode tag site enable autopower settle) := by
  simp only [WellFormed, fits8, Bool.and_eq_true, decide_eq_true_eq] at wf
  obtain ⟨⟨⟨hs, he⟩, ha⟩, ht⟩ := wf
  refine readBody_of_run (fields := be8 site ++ beOpt be8 enable ++ beOpt be8 autopower ++ beOpt be16 settle) ?_
  simp only [requestFields, BitVec.reduceToNat, List.append_assoc, run_bind, u8_be8 hs, opt_u8 he, opt_u8 ha,
    opt_u16 ht, run_ended, run_return]

theorem readBody_power {site action : Nat} (hs : site < 2 ^ 8) (ha : action ≤ 1) :
    readBody setup ([0x02, tag] ++ be8 site ++ be8 action) =
      .ok (if action = 1 then .powerOn tag site else .powerOff tag site) := by
  refine readBody_of_run (fields := be8 site ++ be8 action) ?_
  have small : action < 2 ^ 8 := by omega
  simp only [requestFields, BitVec.reduceToNat, List.append_assoc, run_bind, u8_be8 hs, u8_be8 small, run_ended]
  interval_cases action <;> rfl

theorem readBody_laneMode {lane action : Nat} (hl : lane < 2 ^ 8) (ha : action ≤ 1) :
    readBody setup ([0x0B, tag] ++ be8 lane ++ be8 action) =
      .ok (if action = 1 then .laneModeEnable tag lane else .laneModeDisable tag lane) := by
  refine readBody_of_run (fields := be8 lane ++ be8 action) ?_
  have small : action < 2 ^ 8 := by omega
  simp only [requestFields, BitVec.reduceToNat, List.append_assoc, run_bind, u8_be8 hl, u8_be8 small, run_ended]
  interval_cases action <;> rfl

theorem readBody_readSamples {lane start window follow : Nat}
    (wf : WellFormed (.readSamples tag lane start window follow) = true) :
    readBody setup (requestBody (.readSamples tag lane start window follow)) =
      .ok (.readSamples tag lane start window follow) := by
  simp only [WellFormed, fits8, fits16, Bool.and_eq_true, decide_eq_true_eq] at wf
  obtain ⟨⟨⟨hl, hs⟩, hw⟩, hf⟩ := wf
  refine readBody_of_run (fields := be8 lane ++ be16 start ++ be16 window ++ be8 follow) ?_
  simp only [requestFields, BitVec.reduceToNat, List.append_assoc, run_bind, u8_be8 hl, u16_be16 hs, u16_be16 hw,
    u8_be8 hf, run_ended, run_return]

end

/-- A body whose first byte is no request kind (R179 step 3). -/
theorem readBody_badKind {kind : Byte} (h : isRequestKind kind = false) (setup : Bool) (rest : List Byte) :
    readBody setup (kind :: rest) = .error .badKind := by
  simp only [readBody, h, Bool.not_false, if_true]

end Sys2Proof

namespace Sys2Proof.Machine

/-- Settles O6: a body reads field by field by the lemmas of Laws/Wire, whatever its operands; a first byte of no request kind
is refused before any field. -/
theorem requestsReadBack : Obligations.RequestsReadBack := by
  unfold Obligations.RequestsReadBack
  intro i s wf req
  have oneByte {n : Nat} (h : fits8 n = true) (rest : List Byte) : u8.run (be8 n ++ rest) = .ok (n, rest) :=
    u8_be8 (of_decide_eq_true h) rest
  have bits (b : Byte) (rest : List Byte) : byte.run ([b] ++ rest) = .ok (b, rest) := rfl
  cases i
  case badKindRequest kind rest =>
    simp only [WellFormed, Bool.and_eq_true, Bool.not_eq_true'] at wf
    exact readBody_badKind wf.1 _ rest
  case nextBlock => rfl
  case querySites | queryTimebase | pause | resume | queryQueue | takeCompletion | readAlerts | restart =>
    exact readBody_bare
  case clearSite | queryLane | recalibrate | erasePlan | readPlan | eraseLimits | readLimits | readSnapshot | releaseLane
      | readResult | freeResult | getConfig =>
    exact readBody_one (oneByte wf)
  case protect tag boundary level => exact readBody_one (f := fun b => .protect tag b level) (opt_u8 wf)
  case queryPaths => exact readBody_one (opt_u8 wf)
  case snapshot tag lanes => exact readBody_one (bits lanes)
  case siteMode => exact readBody_siteMode _ _ wf
  case powerOn => exact readBody_power _ _ (of_decide_eq_true wf) le_rfl
  case powerOff => exact readBody_power _ _ (of_decide_eq_true wf) zero_le_one
  case laneModeEnable => exact readBody_laneMode _ _ (of_decide_eq_true wf) le_rfl
  case laneModeDisable => exact readBody_laneMode _ _ (of_decide_eq_true wf) zero_le_one
  case readSamples => exact readBody_readSamples _ _ wf
  case measure | cancel =>
    simp only [WellFormed, Bool.and_eq_true] at wf
    exact readBody_two (oneByte wf.1) (oneByte wf.2)
  case screen tag sites plan => exact readBody_two (siteSet_be16 sites) (oneByte wf)
  case checkPaths tag sites lanes => exact readBody_two (siteSet_be16 sites) (bits lanes)
  case setConfig =>
    simp only [WellFormed, Bool.and_eq_true] at wf
    exact readBody_two (oneByte wf.1) (u32_be32 (of_decide_eq_true wf.2))
  case writePlan =>
    simp only [WellFormed, Bool.and_eq_true] at wf
    exact readBody_two (oneByte wf.1.1) (planRecord_bytes wf.1.2)
  case writeLimits =>
    simp only [WellFormed, Bool.and_eq_true, decide_eq_true_eq] at wf
    exact readBody_two (oneByte wf.1.1) (counted_limitEntry wf.1.2 wf.2)
  all_goals exact absurd req Bool.false_ne_true

end Sys2Proof.Machine
end

section
/-!
SUPPORT. Where the receiver stands is no business of a request's owner: every owner answers alike, and leaves alone, whatever
the receiver state, the gap countdown and, but for READ ALERTS, the alerts are (R174, R175, R179, R186).
-/
namespace Sys2Proof.Machine

/-- The fields of the Link Port that no owner but that of READ ALERTS sees. -/
structure Wire where
  receiver : Receiver
  gap : Countdown
  alerts : Alerts

/-- The state with other values in those fields. -/
def onWire (w : Wire) (s : State) : State :=
  s.modLink fun k => { k with receiver := w.receiver, gap := w.gap, alerts := w.alerts }

section
variable (w : Wire) (s : State)

/-! ### What does not see the wire -/

@[simp] theorem site_onWire (i : Site) : (onWire w s).site i = s.site i := rfl
@[simp] theorem lane_onWire (l : Lane) : (onWire w s).lane l = s.lane l := rfl
@[simp] theorem plan_onWire (p : PlanIx) : (onWire w s).plan p = s.plan p := rfl
@[simp] theorem slot_onWire (h : Handle) : (onWire w s).slot h = s.slot h := rfl
@[simp] theorem limitSet_onWire (x : LimitIx) : (onWire w s).limitSet x = s.limitSet x := rfl
@[simp] theorem results_onWire : (onWire w s).results = s.results := rfl
@[simp] theorem laneOrder_onWire : (onWire w s).laneOrder = s.laneOrder := rfl
@[simp] theorem jobs_onWire : (onWire w s).jobs = s.jobs := rfl
@[simp] theorem follow_onWire : (onWire w s).link.follow = s.link.follow := rfl

@[simp] theorem quadAttached_onWire (q : Quad) : quadAttached (onWire w s) q = quadAttached s q := rfl
@[simp] theorem laneJob_onWire (l : Lane) : laneJob (onWire w s) l = laneJob s l := rfl
@[simp] theorem giveBackEnd_onWire (l : Lane) (j : Job) (cause : RequeueCause) (dest : LaneState) :
    giveBackEnd (onWire w s) l j cause dest = giveBackEnd s l j cause dest := rfl
@[simp] theorem recordOf_onWire (j : Job) (d : Deposit) : recordOf (onWire w s) j d = recordOf s j d := rfl
@[simp] theorem lowestFree_onWire : lowestFree (onWire w s) = lowestFree s := rfl
@[simp] theorem nextBatchId_onWire : nextBatchId (onWire w s) = nextBatchId s := rfl
@[simp] theorem enqueueCheck_onWire (news : List NewJob) : enqueueCheck (onWire w s) news = enqueueCheck s news := rfl

/-! ### Writes of one record -/

@[simp] theorem modSite_onWire (i : Site) (f : SiteRecord → SiteRecord) :
    (onWire w s).modSite i f = onWire w (s.modSite i f) := rfl
@[simp] theorem modLane_onWire (l : Lane) (f : LaneContext → LaneContext) :
    (onWire w s).modLane l f = onWire w (s.modLane l f) := rfl

theorem notAtSites_onWire : NotAtSites (onWire w) :=
  ⟨fun _ _ => rfl, fun _ => rfl, fun _ _ _ => rfl, fun _ _ _ => rfl⟩

/-- A branch whose sides each commute with the change. -/
theorem ite_onWire {w : Wire} {c : Prop} [Decidable c] {a b a' b' : State} (ha : a = onWire w a')
    (hb : b = onWire w b') : (if c then a else b) = onWire w (if c then a' else b') := by
  rw [ha, hb, apply_ite (onWire w)]

/-- A fold of steps that each commute with the change. -/
theorem foldl_onWire {α : Type} {f : State → α → State} (hf : ∀ s a, f (onWire w s) a = onWire w (f s a))
    (l : List α) : l.foldl f (onWire w s) = onWire w (l.foldl f s) :=
  List.foldl_hom (onWire w) hf

/-! ### Ends and givings back (R73, R94) -/

theorem deposit_onWire (j : Job) (d : Deposit) : deposit j d (onWire w s) = onWire w (deposit j d s) := by
  simp only [deposit, recordOf_onWire]
  cases j.work <;> rfl

theorem endInList_onWire (code : TermCode) (j : Job) :
    endInList code (onWire w s) j = onWire w (endInList code s j) :=
  deposit_onWire w (removeJob j.id s) j _

theorem announce_onWire (i : Site) : announce i (onWire w s) = onWire w (announce i s) :=
  foldl_onWire w s (fun s j => endInList_onWire w s .siteGone j) _

theorem endChecksOn_onWire (l : Lane) : endChecksOn l (onWire w s) = onWire w (endChecksOn l s) :=
  foldl_onWire w s (fun s j => endInList_onWire w s .noPath j) _

theorem detach_onWire (l : Lane) : detach l (onWire w s) = onWire w (detach l s) :=
  (notAtSites_onWire w).detach rfl

theorem writeCheckedPath_onWire (j : Job) (e : EndReport) :
    writeCheckedPath j e (onWire w s) = onWire w (writeCheckedPath j e s) := by
  unfold writeCheckedPath
  split <;> rfl

theorem setHold_onWire (l : Lane) (j : Job) (dest : LaneState) :
    setHold l j dest (onWire w s) = onWire w (setHold l j dest s) := by
  unfold setHold
  exact ite_onWire rfl rfl

theorem leave_detach_onWire (l : Lane) (dest : LaneState) :
    leave l dest (detach l (onWire w s)) = onWire w (leave l dest (detach l s)) := by
  rw [detach_onWire]
  rfl

theorem endJob_onWire (l : Lane) (j : Job) (e : EndReport) (dest : LaneState) :
    endJob l j e dest (onWire w s) = onWire w (endJob l j e dest s) := by
  have removed : removeJob j.id (onWire w s) = onWire w (removeJob j.id s) := rfl
  simp only [endJob, removed, writeCheckedPath_onWire, deposit_onWire, setHold_onWire, lane_onWire,
    leave_detach_onWire]

theorem laneEnd_onWire (l : Lane) (e : EndReport) (dest : LaneState) :
    laneEnd l e dest (onWire w s) = onWire w (laneEnd l e dest s) := by
  simp only [laneEnd, laneJob_onWire]
  split
  · exact leave_detach_onWire w s l dest
  · exact endJob_onWire w s l _ e dest

theorem giveBack_onWire (l : Lane) (cause : RequeueCause) (dest : LaneState) :
    giveBack l cause dest (onWire w s) = onWire w (giveBack l cause dest s) := by
  simp only [giveBack, laneJob_onWire, giveBackEnd_onWire, lane_onWire]
  split
  · exact leave_detach_onWire w s l dest
  · split
    · exact endJob_onWire w s l _ _ dest
    · exact leave_detach_onWire w (requeueEntry cause _ s) l dest

/-! ### Switch events, sites, lanes and jobs (R6, R12, R15, R39, R61, R77, R147) -/

theorem takeSwitchEvent_onWire (named : List Site) (cause : SwitchCause) (l : Lane) (i : Site) :
    takeSwitchEvent named cause l i (onWire w s) = onWire w (takeSwitchEvent named cause l i s) := by
  simp only [takeSwitchEvent, lane_onWire, laneEnd_onWire, giveBack_onWire]
  repeat' split
  all_goals rfl

theorem announceSwitch_onWire (q : Quad) (named : List Site) (cause : SwitchCause) (l : Lane) :
    announceSwitch q named cause (onWire w s) l = onWire w (announceSwitch q named cause s l) := by
  simp only [announceSwitch, lane_onWire, takeSwitchEvent_onWire]
  repeat' split
  all_goals rfl

theorem disturbQuad_onWire (q : Quad) : disturbQuad q (onWire w s) = onWire w (disturbQuad q s) :=
  foldl_onWire w (s.setQuiet q _) (fun _ _ => rfl) _

theorem switchOff_onWire (i : Site) (dest : SiteState) (cause : SwitchCause) :
    switchOff i dest cause (onWire w s) = onWire w (switchOff i dest cause s) := by
  simp only [switchOff, quadEvent, modSite_onWire, laneOrder_onWire, disturbQuad_onWire]
  exact foldl_onWire w _ (fun s l => announceSwitch_onWire w s _ _ _ l) _

theorem claimPower_onWire (i : Site) : claimPower i (onWire w s) = onWire w (claimPower i s) := by
  simp only [claimPower, claimTogether, quadAttached_onWire, (notAtSites_onWire w).switchOn]
  split <;> rfl

theorem enterSite_onWire (i : Site) (x : SiteState) : enterSite i x (onWire w s) = onWire w (enterSite i x s) := by
  simp only [enterSite, modSite_onWire, announce_onWire]
  split <;> rfl

theorem cancelJob_onWire (j : Job) : cancelJob (onWire w s) j = onWire w (cancelJob s j) := by
  unfold cancelJob
  split
  · exact endInList_onWire w s .cancelled j
  · exact endJob_onWire w s _ j _ .idle

theorem disableLane_onWire (l : Lane) : disableLane l (onWire w s) = onWire w (disableLane l s) := by
  simp only [disableLane, lane_onWire, giveBack_onWire]
  split <;> simp only [modLane_onWire, endChecksOn_onWire]

theorem latchLane_onWire (l : Lane) : latchLane (onWire w s) l = onWire w (latchLane s l) := by
  unfold latchLane
  exact ite_onWire rfl rfl

theorem appendJobs_onWire (batch : Option Nat) (news : List NewJob) :
    appendJobs batch news (onWire w s) = onWire w (appendJobs batch news s) := by
  refine foldl_onWire w s (fun s n => ?_) news
  simp only [appendJob, lowestFree_onWire]
  split <;> rfl

end

/-! ### Requests by their owners -/

/-- An answer with other values of the wire in the state that it leaves. -/
def rewired (w : Wire) (a : Response × State) : Response × State := (a.1, onWire w a.2)

/-- An owner neither sees nor touches the wire. -/
def Unwired (act : State → Response × State) : Prop := ∀ w s, act (onWire w s) = rewired w (act s)

/-- A check of a request, whose refusal and continuation each commute with the change. -/
theorem ite_rewired {w : Wire} {c : Prop} [Decidable c] {a b a' b' : Response × State} (ha : a = rewired w a')
    (hb : b = rewired w b') : (if c then a else b) = rewired w (if c then a' else b') := by
  rw [ha, hb, apply_ite (rewired w)]

theorem setEnable_onWire (w : Wire) (s : State) (i : Site) (enable : Option Bool) :
    setEnable i enable (onWire w s) = onWire w (setEnable i enable s) := by
  unfold setEnable
  split
  · rfl
  · exact ite_onWire (enterSite_onWire w s i _) rfl
  · exact ite_onWire rfl (enterSite_onWire w s i _)

theorem unwired_reqSiteMode (site : Nat) (enable autopower settle : Option Nat) :
    Unwired (reqSiteMode site enable autopower settle) := by
  intro w s
  unfold reqSiteMode
  split
  · simp only [applySiteMode, setEnable_onWire, modSite_onWire]
    exact ite_rewired rfl rfl
  · rfl

theorem unwired_reqPowerOn (site : Nat) : Unwired (reqPowerOn site) := by
  intro w s
  simp only [reqPowerOn, site_onWire, quadAttached_onWire, claimPower_onWire]
  split
  · rfl
  · split <;> rfl

theorem unwired_reqPowerOff (site : Nat) : Unwired (reqPowerOff site) := by
  intro w s
  simp only [reqPowerOff, site_onWire, switchOff_onWire]
  split
  · rfl
  · split <;> rfl

theorem unwired_reqClearSite (site : Nat) : Unwired (reqClearSite site) := by
  intro w s
  simp only [reqClearSite, site_onWire, enterSite_onWire]
  split
  · rfl
  · exact ite_rewired rfl rfl

theorem unwired_reqRecalibrate (lane : Nat) : Unwired (reqRecalibrate lane) := by
  intro w s
  simp only [reqRecalibrate, lane_onWire]
  split
  · rfl
  · split
    case h_1 | h_2 | h_3 => exact ite_rewired rfl rfl
    all_goals rfl

theorem laneStateReply_onWire (w : Wire) (s : State) (l : Lane) :
    laneStateReply l (onWire w s) = rewired w (laneStateReply l s) := rfl

theorem unwired_reqLaneEnable (lane : Nat) : Unwired (reqLaneEnable lane) := by
  intro w s
  unfold reqLaneEnable
  split
  · rfl
  · refine ite_rewired ?_ rfl
    rw [← laneStateReply_onWire]
    exact congrArg (laneStateReply _) (ite_onWire rfl rfl)

theorem unwired_reqLaneDisable (lane : Nat) : Unwired (reqLaneDisable lane) := by
  intro w s
  unfold reqLaneDisable
  split
  · rfl
  · rw [← laneStateReply_onWire]
    exact congrArg (laneStateReply _) (ite_onWire rfl (disableLane_onWire w s _))

/-- The requests of the Plan Store (R51 to R57). -/
theorem unwired_stores :
    (∀ n p, Unwired (reqWritePlan n p)) ∧ (∀ n, Unwired (reqErasePlan n)) ∧ (∀ n, Unwired (reqReadPlan n))
      ∧ (∀ n x, Unwired (reqWriteLimits n x)) ∧ (∀ n, Unwired (reqEraseLimits n))
      ∧ (∀ n, Unwired (reqReadLimits n)) ∧ ∀ b, Unwired (reqProtect b) := by
  refine ⟨fun _ _ w s => ?_, fun _ w s => ?_, fun _ w s => ?_, fun _ _ w s => ?_, fun _ w s => ?_, fun _ w s => ?_,
    fun _ w s => ?_⟩
  · unfold reqWritePlan; split
    · rfl
    · exact ite_rewired rfl (ite_rewired rfl (ite_rewired rfl rfl))
  · unfold reqErasePlan; split
    · rfl
    · exact ite_rewired rfl (ite_rewired rfl rfl)
  · simp only [reqReadPlan, plan_onWire]; split
    · rfl
    · split <;> rfl
  · unfold reqWriteLimits; split
    · rfl
    · exact ite_rewired rfl (ite_rewired rfl (ite_rewired rfl rfl))
  · unfold reqEraseLimits; split
    · rfl
    · exact ite_rewired rfl (ite_rewired rfl rfl)
  · simp only [reqReadLimits, limitSet_onWire]; split
    · rfl
    · split <;> rfl
  · unfold reqProtect; split
    · rfl
    · exact ite_rewired rfl (ite_rewired rfl rfl)

theorem unwired_enqueueBatch (item : Job → List Byte) (news : List NewJob) : Unwired (enqueueBatch item news) := by
  intro w s
  have numbered (b : Nat) : setBatch b (onWire w s) = onWire w (setBatch b s) := rfl
  simp only [enqueueBatch, enqueueCheck_onWire, nextBatchId_onWire, numbered, appendJobs_onWire]
  split <;> rfl

theorem unwired_reqMeasure (site plan : Nat) : Unwired (reqMeasure site plan) := by
  intro w s
  simp only [reqMeasure, enqueueCheck_onWire, appendJobs_onWire]
  split
  · split <;> rfl
  · rfl

theorem unwired_reqScreen (sites : BitVec 16) (plan : Nat) : Unwired (reqScreen sites plan) := by
  intro w s
  unfold reqScreen
  split
  · rfl
  · exact ite_rewired rfl (unwired_enqueueBatch _ _ w s)

theorem unwired_reqCheckPaths (sites : BitVec 16) (lanes : BitVec 8) : Unwired (reqCheckPaths sites lanes) := by
  intro w s
  unfold reqCheckPaths
  split
  · rfl
  · exact ite_rewired rfl (unwired_enqueueBatch _ _ w s)

theorem unwired_reqCancel (selector value : Nat) : Unwired (reqCancel selector value) := by
  intro w s
  simp only [reqCancel, jobs_onWire]
  split
  · rfl
  · split
    · rfl
    · rw [foldl_onWire w s fun s j => cancelJob_onWire w s j]
      rfl

theorem unwired_reqSnapshot (lanes : BitVec 8) : Unwired (reqSnapshot lanes) := by
  intro w s
  unfold reqSnapshot
  split
  · rfl
  · rw [foldl_onWire w s fun s l => latchLane_onWire w s l]
    exact ite_rewired rfl rfl

/-- The requests that read one lane (R40, R149, R153). -/
theorem unwired_lanes :
    (∀ n, Unwired (reqQueryLane n)) ∧ (∀ n, Unwired (reqReadSnapshot n)) ∧ (∀ n, Unwired (reqReleaseLane n)) := by
  refine ⟨fun _ w s => ?_, fun _ w s => ?_, fun _ w s => ?_⟩
  · unfold reqQueryLane
    split <;> rfl
  · simp only [reqReadSnapshot, lane_onWire]
    split
    · rfl
    · split <;> rfl
  · unfold reqReleaseLane
    split
    · rfl
    · exact ite_rewired rfl rfl

/-- The requests for raw samples (R155, R157). -/
theorem unwired_samples :
    (∀ l n z f, Unwired (reqReadSamples l n z f)) ∧ Unwired reqNext := by
  refine ⟨fun _ _ _ _ w s => ?_, fun w s => ?_⟩
  · simp only [reqReadSamples, lane_onWire]
    split
    · refine ite_rewired rfl (ite_rewired rfl ?_)
      split
      · rfl
      · exact ite_rewired rfl rfl
    · rfl
  · simp only [reqNext, follow_onWire, lane_onWire]
    split
    · rfl
    · split <;> rfl

/-- The requests of the Result Store (R138 to R140). -/
theorem unwired_results :
    Unwired reqTakeCompletion ∧ (∀ n, Unwired (reqReadResult n)) ∧ ∀ n, Unwired (reqFreeResult n) := by
  refine ⟨fun w s => ?_, fun _ w s => ?_, fun _ w s => ?_⟩
  · simp only [reqTakeCompletion, results_onWire, slot_onWire]
    split
    · rfl
    · split <;> rfl
  · simp only [reqReadResult, slot_onWire]
    split
    · rfl
    · split <;> rfl
  · simp only [reqFreeResult, slot_onWire]
    split
    · rfl
    · split <;> rfl

/-- QUERY PATHS and the settings (R171, R188, R189). -/
theorem unwired_settings :
    (∀ site, Unwired (reqQueryPaths site)) ∧ (∀ x v, Unwired (reqSetConfig x v)) ∧ ∀ x, Unwired (reqGetConfig x) := by
  refine ⟨fun _ w s => ?_, fun _ _ w s => ?_, fun _ w s => ?_⟩
  · unfold reqQueryPaths
    split <;> rfl
  · unfold reqSetConfig
    split
    · rfl
    · exact ite_rewired rfl (ite_rewired rfl rfl)
  · unfold reqGetConfig
    split <;> rfl

/-- Every owner but that of READ ALERTS (R179 step 5). -/
theorem unwired_handle {i : Instr} (h : ∀ tag, i ≠ .readAlerts tag) : Unwired (handle i) := by
  obtain ⟨writePlan, erasePlan, readPlan, writeLimits, eraseLimits, readLimits, protect⟩ := unwired_stores
  obtain ⟨queryLane, readSnapshot, releaseLane⟩ := unwired_lanes
  obtain ⟨readSamples, next⟩ := unwired_samples
  obtain ⟨takeCompletion, readResult, freeResult⟩ := unwired_results
  obtain ⟨queryPaths, setConfig, getConfig⟩ := unwired_settings
  cases i
  case siteMode => exact unwired_reqSiteMode _ _ _ _
  case powerOn => exact unwired_reqPowerOn _
  case powerOff => exact unwired_reqPowerOff _
  case clearSite => exact unwired_reqClearSite _
  case queryLane => exact queryLane _
  case recalibrate => exact unwired_reqRecalibrate _
  case laneModeEnable => exact unwired_reqLaneEnable _
  case laneModeDisable => exact unwired_reqLaneDisable _
  case writePlan => exact writePlan _ _
  case erasePlan => exact erasePlan _
  case readPlan => exact readPlan _
  case writeLimits => exact writeLimits _ _
  case eraseLimits => exact eraseLimits _
  case readLimits => exact readLimits _
  case protect => exact protect _
  case measure => exact unwired_reqMeasure _ _
  case screen => exact unwired_reqScreen _ _
  case checkPaths => exact unwired_reqCheckPaths _ _
  case cancel => exact unwired_reqCancel _ _
  case snapshot => exact unwired_reqSnapshot _
  case readSnapshot => exact readSnapshot _
  case readSamples => exact readSamples _ _ _ _
  case nextBlock => exact next
  case releaseLane => exact releaseLane _
  case takeCompletion => exact takeCompletion
  case readResult => exact readResult _
  case freeResult => exact freeResult _
  case queryPaths => exact queryPaths _
  case setConfig => exact setConfig _ _
  case getConfig => exact getConfig _
  case readAlerts tag => exact absurd rfl (h tag)
  all_goals exact fun _ _ => rfl

end Sys2Proof.Machine
end

section
/-!
SUPPORT. The bytes of a frame, met by a receiver in HUNT one after another, are the request that the frame carries (R174 to
R179; log 2).
-/
namespace Sys2Proof.Machine

/-! ### A request is taken alike wherever the receiver stood -/

theorem receive_eq_onWire (x : Receiver) (s : State) :
    receive x s = onWire ⟨x, .load Config.gapTicks, s.link.alerts⟩ s := rfl

/-- Only READ ALERTS touches the alerts (R186). -/
theorem alerts_handle {i : Instr} (h : ∀ tag, i ≠ .readAlerts tag) (s : State) :
    (handle i s).2.link.alerts = s.link.alerts := by
  have same : handle i s = rewired ⟨s.link.receiver, s.link.gap, s.link.alerts⟩ (handle i s) :=
    unwired_handle h ⟨s.link.receiver, s.link.gap, s.link.alerts⟩ s
  rw [same]
  rfl

theorem putReply_onWire (body : List Byte) (r : Response) {w : Wire} {s : State} (same : w.alerts = s.link.alerts) :
    putReply body r (onWire w s) = putReply body r s := by
  obtain ⟨x, g, a⟩ := w
  obtain rfl : a = s.link.alerts := same
  rfl

/-- An owner's answer leaves the same reply and state, wherever the receiver stood. -/
theorem putReply_handle_receive (body : List Byte) (i : Instr) (x : Receiver) (s : State) :
    putReply body (handle i (receive x s)).1 (handle i (receive x s)).2 =
      putReply body (handle i s).1 (handle i s).2 := by
  by_cases reads : ∃ tag, i = .readAlerts tag
  · obtain ⟨tag, rfl⟩ := reads
    rfl
  · have other : ∀ tag, i ≠ .readAlerts tag := fun tag e => reads ⟨tag, e⟩
    rw [receive_eq_onWire, unwired_handle other]
    exact putReply_onWire body _ (alerts_handle other s).symm

theorem endFollow_receive (body : List Byte) (x : Receiver) (s : State) :
    endFollow body (receive x s) = receive x (endFollow body s) := by
  unfold endFollow
  split <;> rfl

theorem takeBody_receive (body : List Byte) (i : Instr) (x : Receiver) (s : State) :
    takeBody body (handle i) (receive x s) = takeBody body (handle i) s := by
  have window : inBusyWindow (receive x (endFollow body s)) = inBusyWindow (endFollow body s) := rfl
  simp only [takeBody, endFollow_receive, window]
  split
  · rfl
  · exact putReply_handle_receive body i x _

/-! ### The body, read, is the request (R179 steps 3 to 5) -/

theorem setupAt_setSetup (i : Instr) (s : State) : setupAt i (setSetup (setupAt i s) s) = setupAt i s := by
  cases i <;> rfl

/-- The body of a request, read, is handed to the request's owner (R179). -/
theorem answer_requestBody {i : Instr} (wf : WellFormed i = true) (req : isRequest i = true) {s : State}
    (level : setupAt i s = s.pins.setup) : answer (requestBody i) s = handle i s := by
  have read := requestsReadBack i s wf req
  rw [level] at read
  split at read
  · rw [answer, read]
    rfl
  · rw [answer, read]

theorem takeBody_congr {body : List Byte} {act act' : State → Response × State} {s : State}
    (same : act (endFollow body s) = act' (endFollow body s)) : takeBody body act s = takeBody body act' s := by
  simp only [takeBody, same]

theorem pins_endFollow (body : List Byte) (s : State) : (endFollow body s).pins = s.pins := by
  rw [onlyLink_endFollow body s]

theorem setupAt_of_pins (i : Instr) {s t : State} (pins : t.pins = s.pins) : setupAt i t = setupAt i s := by
  cases i
  case protect => rfl
  all_goals exact congrArg Pins.setup pins

/-! ### The bytes of a frame (R174) -/

/-- A byte in the course of a frame, with SETUP at the level already sampled. -/
theorem receiveByte_receive {level : Bool} {s : State} (running : s.pins.resetn = true) (setup : s.pins.setup = level)
    (b : Byte) (x : Receiver) : receiveByte b level (receive x s) = acceptByte b (receive x s) := by
  subst setup
  exact if_pos running

/-- The rest of a body takes the receiver from BODY to CHECK. -/
theorem feed_body {level : Bool} {s : State} (running : s.pins.resetn = true) (setup : s.pins.setup = level)
    {n : Nat} (rest : List Byte) (got : List Byte) (more : rest ≠ []) (whole : got.length + rest.length = n) :
    feed level rest (receive (.body n got) s) = receive (.check (got ++ rest)) s := by
  induction rest generalizing got with
  | nil => exact absurd rfl more
  | cons b rest ih =>
    have fed : feed level (b :: rest) (receive (.body n got) s) =
        feed level rest (receive (if n ≤ got.length + 1 then .check (got ++ [b]) else .body n (got ++ [b])) s) := by
      show feed level rest (receiveByte b level (receive (.body n got) s)) = _
      rw [receiveByte_receive running setup, acceptByte_body rfl]
      rfl
    rw [fed]
    rw [List.length_cons] at whole
    by_cases last : rest = []
    · subst last
      rw [if_pos (by simp at whole; omega)]
      rfl
    · have left : 0 < rest.length := List.length_pos_iff.2 last
      rw [if_neg (by omega), ih (got ++ [b]) last (by simp; omega), List.append_assoc]
      rfl

theorem feed_append (level : Bool) (front back : List Byte) (s : State) :
    feed level (front ++ back) s = feed level back (feed level front s) := List.foldl_append

theorem hears_of_listening {s : State} (h : listening s = true) :
    s.pins.resetn = true ∧ s.link.receiver = .hunt ∧ s.link.reply = none := by
  simpa [listening, and_assoc] using h

/-- The bytes of a whole frame, from HUNT, take its body as a request (R174). -/
theorem feed_frameOf {level : Bool} {s : State} {body : List Byte} (hears : listening s = true) (some_byte : body ≠ [])
    (fits : body.length ≤ 240) : feed level (frameOf body) s =
      takeBody body (answer body) (receive (.check body) (setSetup level s)) := by
  obtain ⟨running, hunts, quiet⟩ := hears_of_listening hears
  have runs : (setSetup level s).pins.resetn = true := running
  have setup : (setSetup level s).pins.setup = level := rfl
  have byte_eq : (BitVec.ofNat 8 body.length).toNat = body.length := by
    rw [BitVec.toNat_ofNat, Nat.mod_eq_of_lt (by omega)]
  have good : lengthOk (BitVec.ofNat 8 body.length) = true := by
    rw [lengthOk_iff, byte_eq]
    exact ⟨List.length_pos_iff.2 some_byte, fits⟩
  have sync : receiveByte syncByte level s = receive .length (setSetup level s) :=
    (if_pos running).trans (acceptByte_sync hunts quiet)
  have length : receiveByte (BitVec.ofNat 8 body.length) level (receive .length (setSetup level s)) =
      receive (.body body.length []) (setSetup level s) := by
    rw [receiveByte_receive runs setup, acceptByte_length rfl, good, byte_eq]
    rfl
  show feed level (body ++ [crc8 (BitVec.ofNat 8 body.length :: body)])
    (receiveByte (BitVec.ofNat 8 body.length) level (receiveByte syncByte level s)) = _
  rw [sync, length, feed_append, feed_body runs setup body [] some_byte (by simp), List.nil_append]
  show receiveByte _ level (receive (.check body) (setSetup level s)) = _
  rw [receiveByte_receive runs setup, acceptByte_check rfl, checkByte, if_pos rfl]

/-- The body of a command that can be sent fits a frame (R174). -/
theorem length_requestBody {i : Instr} (wf : WellFormed i = true) : (requestBody i).length ≤ 240 := by
  cases i
  case siteMode => exact Laws.BodyFits.siteMode _ _ _ _ _ wf
  case writePlan => exact Laws.BodyFits.writePlan _ _ _ wf
  case writeLimits => exact Laws.BodyFits.writeLimits _ _ _ wf
  case protect => exact Laws.BodyFits.protect _ _ _ wf
  case queryPaths => exact Laws.BodyFits.queryPaths _ _ wf
  case badKindRequest => exact Laws.BodyFits.badKindRequest _ _ wf
  all_goals exact Laws.BodyFits.fits_of _ rfl wf

/-- Settles O7: where the part listens, the frame's bytes come to the body's being taken, its owner not seeing where the
receiver stood; elsewhere the command is those bytes by definition. -/
theorem requestIsItsFrame : Obligations.RequestIsItsFrame := by
  unfold Obligations.RequestIsItsFrame
  intro i s wf req
  rw [exec_of_isRequest req, taken]
  refine congrArg Host.Outcome.next ?_
  by_cases hears : listening s = true
  · have some_byte : requestBody i ≠ [] := by simpa [isRequest] using req
    rw [request_of_listening hears, feed_frameOf hears some_byte (length_requestBody wf), ← takeBody_receive]
    refine takeBody_congr (answer_requestBody wf req ?_).symm
    rw [pins_endFollow, setupAt_of_pins i (pins_endFollow _ _)]
    exact setupAt_setSetup i s
  · exact if_neg hears

end Sys2Proof.Machine
end

section
/-!
SUPPORT. What each command leaves of the receiver, the reply, the gap countdown and the alerts (R174, R175, R178, R184).
-/
namespace Sys2Proof.Machine

/-! ### Masks and flags (R184) -/

theorem MasksHaveFlags.congr {s t : State} (h : MasksHaveFlags s) (alerts : t.link.alerts = s.link.alerts) :
    MasksHaveFlags t := by
  unfold MasksHaveFlags State.alertSet
  rw [alerts]
  exact h

/-- No mask names anything. -/
theorem masksHaveFlags_of_zero {s : State} (lane : s.link.alerts.laneFaulted = 0) (site : s.link.alerts.supplyFault = 0)
    (hold : s.link.alerts.holdExpired = 0) : MasksHaveFlags s :=
  ⟨absurd lane, absurd site, absurd hold⟩

/-- A flag that is set stays set as another is raised. -/
theorem alertSet_raiseAlert_of_set {s : State} (a : Alert) {b : Alert} (set : s.alertSet b = true) :
    (raiseAlert a s).alertSet b = true := by
  rw [alertSet_raiseAlert, set, Bool.true_or]

theorem alertSet_raiseAlert_self (a : Alert) (s : State) : (raiseAlert a s).alertSet a = true := by
  rw [alertSet_raiseAlert, beq_self_eq_true, Bool.or_true]

section
variable {s : State} (h : MasksHaveFlags s)
include h

theorem MasksHaveFlags.raiseAlert (a : Alert) : MasksHaveFlags (raiseAlert a s) := by
  obtain ⟨lane, site, hold⟩ := h
  exact ⟨fun m => alertSet_raiseAlert_of_set a (lane m), fun m => alertSet_raiseAlert_of_set a (site m),
    fun m => alertSet_raiseAlert_of_set a (hold m)⟩

theorem MasksHaveFlags.raiseLaneFaulted (l : Lane) : MasksHaveFlags (raiseLaneFaulted l s) := by
  obtain ⟨-, site, hold⟩ := h.raiseAlert .laneFaulted
  exact ⟨fun _ => alertSet_raiseAlert_self .laneFaulted s, site, hold⟩

theorem MasksHaveFlags.raiseSupplyFault (i : Site) : MasksHaveFlags (raiseSupplyFault i s) := by
  obtain ⟨lane, -, hold⟩ := h.raiseAlert .supplyFault
  exact ⟨lane, fun _ => alertSet_raiseAlert_self .supplyFault s, hold⟩

theorem MasksHaveFlags.raiseHoldExpired (l : Lane) : MasksHaveFlags (raiseHoldExpired l s) := by
  obtain ⟨lane, site, -⟩ := h.raiseAlert .holdExpired
  exact ⟨lane, site, fun _ => alertSet_raiseAlert_self .holdExpired s⟩

end

/-! ### Receiver, reply and gap countdown (R174, R175, R178) -/

/-- Receiver, reply and gap countdown stand, with the restart owed, and no mask loses its flag. -/
structure KeepsPort (s t : State) : Prop where
  receiver : t.link.receiver = s.link.receiver
  gap : t.link.gap = s.link.gap
  reply : t.link.reply = s.link.reply
  restartOwed : t.link.restartOwed = s.link.restartOwed
  masks : MasksHaveFlags s → MasksHaveFlags t

theorem KeepsPort.trans {s t u : State} (h : KeepsPort s t) (k : KeepsPort t u) : KeepsPort s u :=
  ⟨k.receiver.trans h.receiver, k.gap.trans h.gap, k.reply.trans h.reply, k.restartOwed.trans h.restartOwed,
    fun m => k.masks (h.masks m)⟩

theorem keepsPort_of_link {s t : State} (link : t.link = s.link) : KeepsPort s t :=
  ⟨by rw [link], by rw [link], by rw [link], by rw [link], fun m => m.congr (by rw [link])⟩

theorem KeepsPort.refl (s : State) : KeepsPort s s := keepsPort_of_link rfl

theorem keepsPort_raiseAlert (a : Alert) (s : State) : KeepsPort s (raiseAlert a s) :=
  ⟨rfl, rfl, rfl, rfl, fun m => m.raiseAlert a⟩

/-- The Link Port's records agree, and no mask stands without its flag. -/
def LinkFits (s : State) : Prop := LinkAgrees s ∧ MasksHaveFlags s

theorem LinkFits.keeps {s t : State} (h : LinkFits s) (k : KeepsPort s t) : LinkFits t := by
  refine ⟨?_, k.masks h.2⟩
  unfold LinkAgrees
  rw [k.receiver, k.gap, k.reply, k.restartOwed]
  exact h.1

theorem LinkAgrees.gap {s : State} (h : LinkAgrees s) (hunts : s.link.receiver = .hunt) : s.link.gap = .idle := by
  obtain ⟨stands, -⟩ := h
  rwa [hunts] at stands

/-- A receiver in a frame that is not swallowed has no reply pending. -/
theorem LinkAgrees.quiet {s : State} (h : LinkAgrees s) (awake : s.link.receiver ≠ .hunt)
    (hears : ∀ x, s.link.receiver ≠ .swallow x) : s.link.reply = none := by
  obtain ⟨stands, -⟩ := h
  split at stands
  · exact absurd ‹_› awake
  · exact absurd ‹_› (hears _)
  all_goals exact stands

theorem linkAgrees_putReply (body : List Byte) (r : Response) (s : State) : LinkAgrees (putReply body r s) :=
  ⟨rfl, fun _ => rfl⟩

theorem linkAgrees_decideNak (x : NakReason) (s : State) : LinkAgrees (decideNak x s) := ⟨rfl, fun _ => rfl⟩

section
variable {s t : State} (h : LinkAgrees s)
include h

theorem LinkAgrees.toHunt : LinkAgrees (toHunt s) := ⟨rfl, h.2⟩

theorem LinkAgrees.swallow (x : Swallow) : LinkAgrees (receive (.swallow x) s) := ⟨trivial, h.2⟩

/-- A frame goes on while no reply is pending. -/
theorem LinkAgrees.receive {x : Receiver} (awake : x ≠ .hunt) (quiet : s.link.reply = none) :
    LinkAgrees (receive x s) := by
  refine ⟨?_, h.2⟩
  cases x
  case hunt => exact absurd rfl awake
  case swallow => exact trivial
  all_goals exact quiet

/-- The end of a reply, and of what it owes. -/
theorem LinkAgrees.ended (receiver : t.link.receiver = s.link.receiver) (gap : t.link.gap = s.link.gap)
    (reply : t.link.reply = none) (owes : t.link.restartOwed = false) : LinkAgrees t := by
  refine ⟨?_, fun due => absurd (owes.symm.trans due) Bool.false_ne_true⟩
  rw [receiver, gap]
  split
  · exact h.gap ‹_›
  · exact trivial
  all_goals exact reply

end

/-! ### Events of sites, quads and lanes

Most leave the Link Port alone; those that raise an alert set its flag with its mask. -/

theorem link_acquisitionEnd (l : Lane) (code : TermCode) (s : State) : (acquisitionEnd l code s).link = s.link :=
  (keepsRest_acquisitionEnd l code s).link

theorem link_lockTest {l : Lane} {p : RunParams} {time : Rat} {without : State → State} {s : State}
    (h : (without s).link = s.link) : (lockTest l p time without s).link = s.link := by
  unfold lockTest
  split
  · rfl
  · exact h

section
variable (l : Lane) (edges : List EdgeRun) (time : Rat) (s : State)

theorem link_attachEnd : (attachEnd l s).link = s.link := by
  simp only [attachEnd]
  split <;> rfl

theorem link_noSignalWindowEnd : (noSignalWindowEnd l edges s).link = s.link := by
  simp only [noSignalWindowEnd]
  split
  · split
    · rfl
    · split
      · exact link_acquisitionEnd l _ s
      · rfl
  · rfl

theorem link_coarseFrequencyCheck : (coarseFrequencyCheck l edges time s).link = s.link := by
  simp only [coarseFrequencyCheck]
  split
  · split
    · rfl
    · split
      · exact link_acquisitionEnd l _ s
      · split
        · exact link_acquisitionEnd l _ _
        · exact link_lockTest rfl
  · rfl

theorem link_lockAcquired : (lockAcquired l edges time s).link = s.link := by
  simp only [lockAcquired]
  split
  · split
    · rfl
    · exact link_lockTest rfl
  · rfl

theorem link_lockWindowEnd : (lockWindowEnd l edges time s).link = s.link := by
  unfold lockWindowEnd
  split
  · split
    · rfl
    · exact link_lockTest (link_acquisitionEnd l _ _)
  · rfl

theorem link_lockWindowLapse : (lockWindowLapse l s).link = s.link := by
  unfold lockWindowLapse
  split
  · exact link_acquisitionEnd l _ s
  · rfl

theorem link_lossOfLock : (lossOfLock l edges time s).link = s.link := by
  simp only [lossOfLock]
  split
  · split
    · rfl
    · split
      · exact link_acquisitionEnd l _ s
      · rfl
  · rfl

theorem link_discardComplete : (discardComplete l edges s).link = s.link := by
  simp only [discardComplete]
  split
  · split
    · rfl
    · split
      · exact link_acquisitionEnd l _ s
      · split <;> rfl
  · rfl

theorem link_sampleComplete : (sampleComplete l edges s).link = s.link := by
  simp only [sampleComplete]
  split
  · split
    · rfl
    · split
      · exact link_acquisitionEnd l _ s
      · split
        · split <;> rfl
        · rfl
  · rfl

theorem link_checkCaptureEnd : (checkCaptureEnd l s).link = s.link := by
  simp only [checkCaptureEnd]
  split
  · split <;> rfl
  · rfl

theorem link_reductionEnd : (reductionEnd l s).link = s.link := by
  simp only [reductionEnd]
  split
  · split
    · rfl
    · exact (keepsRest_laneEnd l _ .idle s).link
  · rfl

theorem link_budgetExpiry : (budgetExpiry l s).link = s.link := by
  simp only [budgetExpiry]
  split
  · split
    · rfl
    · exact (keepsRest_laneEnd l _ .idle s).link
  · rfl

end

theorem keepsPort_raiseSupplyFault (i : Site) (s : State) : KeepsPort s (raiseSupplyFault i s) :=
  ⟨rfl, rfl, rfl, rfl, fun m => m.raiseSupplyFault i⟩

theorem keepsPort_supplyFaultTrip (i : Site) (s : State) : KeepsPort s (supplyFaultTrip i s) := by
  simp only [supplyFaultTrip]
  split
  · have counted : KeepsPort s (s.modSite i fun r => { r with faults := min 255 (r.faults + 1) }) :=
      keepsPort_of_link rfl
    have off := counted.trans (keepsPort_of_link (keepsRest_switchOff i .fault .faultTrip _).link)
    exact (off.trans (keepsPort_raiseSupplyFault i _)).trans (keepsPort_of_link (keepsRest_announce i _).link)
  · exact .refl s

theorem keepsPort_monitorMoved (r : Reference) (s : State) : KeepsPort s (monitorMoved r s) :=
  .trans (t := { s with ref := r }) (keepsPort_of_link rfl) (keepsPort_raiseAlert .reference _)

theorem IntervalEnd.keepsPort {edges : Nat} {s t : State} (h : IntervalEnd edges s t) : KeepsPort s t := by
  cases h with
  | monitors | goesOn => exact keepsPort_of_link rfl
  | locks =>
    exact (keepsPort_monitorMoved _ s).trans (keepsPort_of_link (by rw [onlyLanes_locks]))
  | loses => exact (keepsPort_monitorMoved _ s).trans (keepsPort_of_link (keepsRest_loses s.laneOrder _).link)

theorem link_calCounterExpiry (l : Lane) (s : State) : (calCounterExpiry l s).link = s.link := by
  simp only [calCounterExpiry]
  split
  · split
    · split
      · exact (keepsRest_giveBack l .preempted .calibrating _).link
      · rfl
    · rfl
  · rfl

theorem keepsPort_calibrationComplete (l : Lane) (gain : Nat) (spread : Rat) (s : State) :
    KeepsPort s (calibrationComplete l gain spread s) := by
  have faulted (u : State) (link : u.link = s.link) : KeepsPort s (raiseLaneFaulted l u) :=
    (keepsPort_of_link link).trans ⟨rfl, rfl, rfl, rfl, fun m => m.raiseLaneFaulted l⟩
  simp only [calibrationComplete]
  split
  · split
    · exact keepsPort_of_link rfl
    · split
      · exact keepsPort_of_link rfl
      · exact faulted _ rfl
  · exact .refl s

theorem keepsPort_holdExpiry (l : Lane) (s : State) : KeepsPort s (holdExpiry l s) := by
  simp only [holdExpiry]
  split
  · exact .trans (t := s.modLane l endHold) (keepsPort_of_link rfl)
      ⟨rfl, rfl, rfl, rfl, fun m => m.raiseHoldExpired l⟩
  · exact .refl s

theorem link_quietTimeCalibration (l : Lane) (s : State) : (quietTimeCalibration l s).link = s.link := by
  simp only [quietTimeCalibration]
  split <;> rfl

theorem link_quietExpiry (q : Quad) (s : State) : (quietExpiry q s).link = s.link := by
  unfold quietExpiry
  split <;> rfl

/-- A pairing may mark the follow context stale (R158), and nothing else at the Link Port. -/
theorem keepsPort_lanePairing (s : State) : KeepsPort s (lanePairing s) := by
  unfold lanePairing
  split
  · exact .refl s
  · exact ⟨rfl, rfl, rfl, rfl, fun m => m.congr rfl⟩

theorem keepsPort_restartBusyWindowEnd (s : State) : KeepsPort s (restartBusyWindowEnd s) := by
  unfold restartBusyWindowEnd
  split
  · exact ⟨rfl, rfl, rfl, rfl, fun m => m.congr rfl⟩
  · exact .refl s

/-! ### The link's own events (R175, R178, R182) -/

section
variable {s : State} (h : LinkFits s)
include h

theorem LinkFits.decideNak (x : NakReason) : LinkFits (decideNak x s) :=
  ⟨linkAgrees_decideNak x s, (h.2.congr rfl).raiseAlert .linkError⟩

theorem LinkFits.toHunt : LinkFits (toHunt s) := ⟨h.1.toHunt, h.2.congr rfl⟩

theorem LinkFits.gapExpiry : LinkFits (gapExpiry s) := by
  unfold Machine.gapExpiry
  split
  · split
    case h_1 | h_2 | h_3 => exact h.decideNak .gap
    case h_4 => exact h.decideNak .length
    case h_5 | h_6 => exact h.toHunt
  · exact h

theorem LinkFits.issueRestart : LinkFits (issueRestart s) := by
  have link := link_issueRestart s
  exact ⟨h.1.ended (by rw [link]) (by rw [link]) (by rw [link]) (by rw [link]),
    masksHaveFlags_of_zero (by rw [link]) (by rw [link]) (by rw [link])⟩

theorem LinkFits.restartIssue : LinkFits (restartIssue s) := by
  unfold Machine.restartIssue
  split
  · exact h.issueRestart
  · exact h

theorem LinkFits.replyComplete : LinkFits (replyComplete s) := by
  unfold Machine.replyComplete
  split
  · exact h.issueRestart
  · rename_i owes
    exact ⟨h.1.ended rfl rfl rfl (eq_false_of_ne_true owes), h.2.congr rfl⟩

/-- A tick leaves a gap countdown that does not run (R175). -/
theorem LinkFits.tickAll (contact flt : BitVec 16) : LinkFits (tickAll contact flt s) := by
  have link : (Machine.tickAll contact flt s).link = tickLink s.link := by
    simp [Machine.tickAll]
  refine ⟨⟨?_, ?_⟩, h.2.congr (by rw [link]; rfl)⟩
  · rw [link]
    split <;> rename_i state
    · show s.link.gap.tick = .idle
      rw [h.1.gap state]
      rfl
    · trivial
    all_goals exact h.1.quiet (fun e => nomatch state.symm.trans e) fun x e => nomatch state.symm.trans e
  · rw [link]
    exact h.1.2

end

/-! ### Requests and bytes -/

theorem MasksHaveFlags.handle {s : State} (h : MasksHaveFlags s) (i : Instr) : MasksHaveFlags (handle i s).2 := by
  by_cases reads : ∃ tag, i = .readAlerts tag
  · obtain ⟨tag, rfl⟩ := reads
    exact masksHaveFlags_of_zero rfl rfl rfl
  · exact h.congr (alerts_handle (fun tag e => reads ⟨tag, e⟩) s)

theorem MasksHaveFlags.endFollow {s : State} (h : MasksHaveFlags s) (body : List Byte) :
    MasksHaveFlags (endFollow body s) := by
  unfold Machine.endFollow
  split
  · exact h
  · exact h.congr rfl

/-- A request leaves its reply pending and the receiver in HUNT, whatever its owner did but to the alerts (R178). -/
theorem linkFits_takeBody {body : List Byte} {act : State → Response × State} {s : State}
    (masks : ∀ u, MasksHaveFlags u → MasksHaveFlags (act u).2) (h : MasksHaveFlags s) :
    LinkFits (takeBody body act s) := by
  have left : MasksHaveFlags (if inBusyWindow (endFollow body s) then (refuse .busy, endFollow body s)
      else act (endFollow body s)).2 := by
    split
    · exact h.endFollow body
    · exact masks _ (h.endFollow body)
  exact ⟨linkAgrees_putReply _ _ _, left.congr rfl⟩

theorem MasksHaveFlags.answer {s : State} (h : MasksHaveFlags s) (body : List Byte) :
    MasksHaveFlags (answer body s).2 := by
  unfold Machine.answer
  split
  · exact h
  · exact h.handle _

section
variable {s : State} (h : LinkFits s)
include h

theorem LinkFits.swallowByte (x : Swallow) (b : Byte) : LinkFits (swallowByte x b s) := by
  have goesOn (y : Swallow) : LinkFits (receive (.swallow y) s) := ⟨h.1.swallow y, h.2.congr rfl⟩
  unfold Machine.swallowByte
  split
  · exact goesOn _
  · split
    · exact h.toHunt
    · exact goesOn _
  · exact goesOn _

theorem LinkFits.acceptByte (b : Byte) : LinkFits (acceptByte b s) := by
  have goesOn {x : Receiver} (awake : x ≠ .hunt) (quiet : s.link.reply = none) : LinkFits (receive x s) :=
    ⟨h.1.receive awake quiet, h.2.congr rfl⟩
  cases e : s.link.receiver with
  | hunt =>
    by_cases sync : b = syncByte
    · subst sync
      by_cases quiet : s.link.reply = none
      · rw [acceptByte_sync e quiet]
        exact goesOn nofun quiet
      · rw [acceptByte_sync_pending e quiet]
        exact .keeps ⟨h.1.swallow .length, h.2.congr rfl⟩ (keepsPort_raiseAlert _ _)
    · rwa [acceptByte_noSync e sync]
  | length =>
    rw [acceptByte_length e]
    exact goesOn (by split <;> nofun) (h.1.quiet (by simp [e]) (by simp [e]))
  | body n got =>
    rw [acceptByte_body e]
    exact goesOn (by split <;> nofun) (h.1.quiet (by simp [e]) (by simp [e]))
  | check body =>
    rw [acceptByte_check e, checkByte]
    split
    · exact linkFits_takeBody (fun u m => m.answer body) h.2
    · exact h.decideNak .check
  | drain =>
    rw [acceptByte_drain e]
    exact goesOn nofun (h.1.quiet (by simp [e]) (by simp [e]))
  | swallow x =>
    rw [acceptByte_swallow e]
    exact h.swallowByte x b

theorem LinkFits.setSetup (level : Bool) : LinkFits (setSetup level s) := h.keeps (keepsPort_of_link rfl)

theorem LinkFits.receiveByte (b : Byte) (level : Bool) : LinkFits (receiveByte b level s) := by
  unfold Machine.receiveByte
  split
  · exact (h.setSetup level).acceptByte b
  · exact h

theorem LinkFits.request (level : Bool) (i : Instr) : LinkFits (request level i (handle i) s) := by
  unfold Machine.request
  split
  · exact linkFits_takeBody (fun u m => m.handle i) (h.setSetup level).2
  · exact foldl_keeps LinkFits _ (fun u b k => k.receiveByte b level) _ s h

end

/-! ### The service tick and reset -/

theorem keepsPort_drainSite (s : State) (i : Site) : KeepsPort s (drainSite s i) := by
  have changed : KeepsPort s (contactRise i (contactFall i s)) :=
    keepsPort_of_link ((keepsRest_contactFall i s).trans (keepsRest_contactRise i _)).link
  exact (changed.trans (keepsPort_supplyFaultTrip i _)).trans (keepsPort_of_link (keepsRest_settleExpiry i _).link)

theorem keepsPort_drainLane (s : State) (l : Lane) : KeepsPort s (drainLane s l) := by
  have run : (budgetExpiry l (reductionEnd l (checkCaptureEnd l (lockWindowLapse l (attachEnd l
      (calCounterExpiry l s)))))).link = s.link := by
    rw [link_budgetExpiry, link_reductionEnd, link_checkCaptureEnd, link_lockWindowLapse, link_attachEnd,
      link_calCounterExpiry]
  exact (keepsPort_of_link run).trans (keepsPort_holdExpiry l _)

theorem LinkFits.drain {s : State} (h : LinkFits s) : LinkFits (drain s) := by
  simp only [Machine.drain]
  have sites := foldl_keeps LinkFits drainSite (fun u i k => k.keeps (keepsPort_drainSite u i)) allSites s h
  have quads := foldl_keeps LinkFits drainQuad (fun u q k => k.keeps (keepsPort_of_link (link_quietExpiry q u)))
    allQuads _ sites
  have lanes := foldl_keeps LinkFits drainLane (fun u l k => k.keeps (keepsPort_drainLane u l)) allLanes _ quads
  have link := lanes.gapExpiry.keeps (keepsPort_restartBusyWindowEnd _)
  have pairs := foldl_keeps LinkFits drainPairing (fun u _ k => k.keeps (keepsPort_lanePairing u)) allLanes _ link
  exact foldl_keeps LinkFits drainQuiet (fun u l k => k.keeps (keepsPort_of_link (link_quietTimeCalibration l u)))
    allLanes _ pairs

theorem LinkFits.serviceTick {s : State} (h : LinkFits s) (contact flt : BitVec 16) (order : Fin 24) :
    LinkFits (serviceTick contact flt order s) := by
  have sampled (u : State) : KeepsPort u (sampleLines contact flt order u) := keepsPort_of_link rfl
  exact (h.drain.keeps (sampled _)).tickAll contact flt

theorem linkFits_resetTo (contact : BitVec 16) (rate : BitVec 2) (s : State) : LinkFits (resetTo contact rate s) :=
  ⟨⟨rfl, nofun⟩, masksHaveFlags_of_zero rfl rfl rfl⟩

theorem linkFits_resetAssert (s : State) : LinkFits (resetAssert s) :=
  ⟨⟨rfl, nofun⟩, masksHaveFlags_of_zero rfl rfl rfl⟩

theorem LinkFits.resetEnd {s : State} (h : LinkFits s) (contact : BitVec 16) (rate : BitVec 2) :
    LinkFits (resetEnd contact rate s) := by
  unfold Machine.resetEnd
  split
  · exact h
  · exact linkFits_resetTo contact rate s

/-! ### Every command -/

/-- Every command keeps it. -/
theorem LinkFits.exec {s t : State} (h : LinkFits s) (i : Instr) (e : exec i s = .next t) : LinkFits t := by
  have occurs {f : State → State} (hf : LinkFits (f s)) (e : Machine.occurs f s = .next t) : LinkFits t := by
    cases e
    split
    · exact hf
    · exact h
  have keeps {f : State → State} (hf : KeepsPort s (f s)) (e : Machine.occurs f s = .next t) : LinkFits t :=
    occurs (h.keeps hf) e
  have stands {f : State → State} (hf : (f s).link = s.link) (e : Machine.occurs f s = .next t) : LinkFits t :=
    keeps (keepsPort_of_link hf) e
  by_cases req : isRequest i = true
  · rw [exec_of_isRequest req] at e
    cases e
    exact h.request _ i
  cases i
  case receiveByte b level => cases e; exact h.receiveByte b level
  case gapExpiry => exact occurs h.gapExpiry e
  case replyComplete => exact occurs h.replyComplete e
  case restartIssue => exact occurs h.restartIssue e
  case restartBusyWindowEnd => exact keeps (keepsPort_restartBusyWindowEnd s) e
  case resetAssert => cases e; exact linkFits_resetAssert s
  case resetEnd contact rate => cases e; exact h.resetEnd contact rate
  case serviceTick => exact occurs (h.serviceTick _ _ _) e
  case contactRise i => exact stands (keepsRest_contactRise i s).link e
  case contactFall i => exact stands (keepsRest_contactFall i s).link e
  case supplyFaultTrip => exact keeps (keepsPort_supplyFaultTrip _ s) e
  case settleExpiry i => exact stands (keepsRest_settleExpiry i s).link e
  case quietExpiry => exact stands (link_quietExpiry _ s) e
  case checkIntervalEnd edges => exact keeps (intervalEnd_checkIntervalEnd edges s).keepsPort e
  case calCounterExpiry => exact stands (link_calCounterExpiry _ s) e
  case quietTimeCalibration => exact stands (link_quietTimeCalibration _ s) e
  case calibrationComplete => exact keeps (keepsPort_calibrationComplete _ _ _ s) e
  case lanePairing => exact keeps (keepsPort_lanePairing s) e
  case holdExpiry => exact keeps (keepsPort_holdExpiry _ s) e
  case attachEnd => exact stands (link_attachEnd _ s) e
  case noSignalWindowEnd => exact stands (link_noSignalWindowEnd _ _ s) e
  case coarseFrequencyCheck => exact stands (link_coarseFrequencyCheck _ _ _ s) e
  case lockAcquired => exact stands (link_lockAcquired _ _ _ s) e
  case lockWindowEnd => exact stands (link_lockWindowEnd _ _ _ s) e
  case lossOfLock => exact stands (link_lossOfLock _ _ _ s) e
  case discardComplete => exact stands (link_discardComplete _ _ s) e
  case sampleComplete => exact stands (link_sampleComplete _ _ s) e
  case checkCaptureEnd => exact stands (link_checkCaptureEnd _ s) e
  case reductionEnd => exact stands (link_reductionEnd _ s) e
  case budgetExpiry => exact stands (link_budgetExpiry _ s) e
  all_goals exact absurd rfl req

/-- Settles O57: only the link's own events and bytes move receiver and reply, a taken request always ends in HUNT with its
reply pending, and each mask bit is set with its flag. -/
theorem linkKept : Obligations.LinkKept := by
  unfold Obligations.LinkKept
  intro s t h e
  unfold step at e
  split at e
  · cases e
    exact h
  · next rest _ =>
    have taken : LinkFits { s with pending := rest } := h
    exact taken.exec _ e

end Sys2Proof.Machine
end
